-- ==== Sys2Proof/Word.lean ====
section
/-! DEFINITION. The two word widths of the block (spec/00_scope.md R5, R6). -/

namespace Sys2Proof

/-- A byte: 8 bits (R6). -/
abbrev Byte := BitVec 8

/-- A word: 16 bits, a register pair or an address (R6). -/
abbrev Word := BitVec 16

end Sys2Proof
end

