-- ==== Sys2Proof/Config.lean ====
section
/-! DEFINITION. The parameters of spec/00_scope.md R5 that the spec leaves OPEN, and the free values. -/

namespace Sys2Proof

/-- The three hardware revisions, chosen by the `revision` port (spec/70_reset_and_hazards.md R331).
The spec names only DMG. -/
inductive Revision where
  | dmg
  | rev2
  | rev3
  deriving DecidableEq, Repr

/-- The parameter `SUB_HALF_CARRY` (spec/41_alu8.md R121). -/
inductive SubHalfCarry where
  | low
  | high
  deriving DecidableEq, Repr

/-- The parameter `OPCODE_SOURCE` (spec/30_encoding.md R95). -/
inductive OpcodeSource where
  | fetch
  | harness
  deriving DecidableEq, Repr

/-- What stays fixed while one instance runs. It is a field of State, so that a statement over every
state is a statement over every value of these parameters (log 7, 8, 9). -/
structure Config where
  revision     : Revision
  subHalfCarry : SubHalfCarry
  opcodeSource : OpcodeSource
  deriving DecidableEq, Repr

/-- The defaults of R5: `SUB_HALF_CARRY = LOW`, `OPCODE_SOURCE = FETCH`, and DMG, the revision the spec
gives values for. -/
def Config.default : Config := { revision := .dmg, subHalfCarry := .low, opcodeSource := .fetch }

/-- A revision's initial register file (R331). `flags` is the high nibble of F; the low nibble is 0 in
every revision (spec/10_state.md R24, R36), so the record has no place for it. -/
structure RegInit where
  a     : Byte
  flags : BitVec 4
  bc    : Word
  de    : Word
  hl    : Word
  deriving DecidableEq, Repr, Inhabited

/-- The DMG values: AF = 0x01B0, BC = 0x0013, DE = 0x00D8, HL = 0x014D (R330). -/
def Config.dmgInit : RegInit := { a := 0x01, flags := 0xB, bc := 0x0013, de := 0x00D8, hl := 0x014D }

/-- `REV2_INIT`, OPEN (R331): a FREE VALUE, no proof can know it (log 9). -/
opaque Config.rev2Init : RegInit

/-- `REV3_INIT`, OPEN (R331): a FREE VALUE, no proof can know it (log 9). -/
opaque Config.rev3Init : RegInit

/-- The initial register file of a revision (R36). -/
def Config.regInit : Revision → RegInit
  | .dmg  => Config.dmgInit
  | .rev2 => Config.rev2Init
  | .rev3 => Config.rev3Init

/-- What a device answers to a read request at address `a` when its own state is `d`: present with some
byte, or absent (spec/20_memory.md R51, R52). A FREE VALUE (log 5). -/
opaque Config.deviceRead (d : Nat) (a : Word) : Option Byte

/-- The device's state after that read request; a read may have a side effect (R61). A FREE VALUE (log 5). -/
opaque Config.deviceAfterRead (d : Nat) (a : Word) : Nat

/-- Whether a device accepts the write of `v` at address `a` (R53). A FREE VALUE (log 5). -/
opaque Config.deviceAccepts (d : Nat) (a : Word) (v : Byte) : Bool

/-- The device's state after a write it accepted. It may depend on the address and the byte written, so a
later answer may too: a bank select, a register read back (R51). A FREE VALUE (log 5). -/
opaque Config.deviceAfterWrite (d : Nat) (a : Word) (v : Byte) : Nat

end Sys2Proof
end

