-- ==== Sys2Proof/Syntax.lean ====
section
/-! DEFINITION. The syntax of the instruction set: the operand names of spec/30_encoding.md R83 to R86,
`Instr` with one constructor per row of spec/opcode_table.json (256 opcode bytes, R90), and the families
of instructions by operand. An operand byte or word has exactly the width its encoding gives it. -/

namespace Sys2Proof

/-- The 8-bit register operands: field codes 0 to 5 and 7 of R83. Code 6 is the byte at HL, which has
constructors of its own; no code selects F (spec/10_state.md R25). -/
inductive Reg8 where
  | b | c | d | e | h | l | a
  deriving DecidableEq, Repr

/-- The field code of R83. -/
def Reg8.code : Reg8 → BitVec 3
  | .b => 0 | .c => 1 | .d => 2 | .e => 3 | .h => 4 | .l => 5 | .a => 7

/-- The pair field `p` of LD rr,d16, INC rr, DEC rr and ADD HL,rr (R84). -/
inductive Pair where
  | bc | de | hl | sp
  deriving DecidableEq, Repr

/-- The field code of R84. -/
def Pair.code : Pair → BitVec 2
  | .bc => 0 | .de => 1 | .hl => 2 | .sp => 3

/-- The pair field `p` of PUSH and POP (R84). -/
inductive StackPair where
  | bc | de | hl | af
  deriving DecidableEq, Repr

/-- The field code of R84. -/
def StackPair.code : StackPair → BitVec 2
  | .bc => 0 | .de => 1 | .hl => 2 | .af => 3

/-- The four conditions (R85, spec/45_control.md R230). -/
inductive Cond where
  | nz | z | nc | c
  deriving DecidableEq, Repr

/-- The condition code of R85 and R230. -/
def Cond.code : Cond → BitVec 2
  | .nz => 0 | .z => 1 | .nc => 2 | .c => 3

/-- The operation field of the 8-bit ALU groups (R86). -/
inductive AluOp where
  | add | adc | sub | sbc | and | xor | or | cp
  deriving DecidableEq, Repr

/-- The field code of R86. -/
def AluOp.code : AluOp → BitVec 3
  | .add => 0 | .adc => 1 | .sub => 2 | .sbc => 3 | .and => 4 | .xor => 5 | .or => 6 | .cp => 7

/-- One constructor per row of spec/opcode_table.json: those with operand bytes first (Lean's compiler gives
only the first 244 constructors of a type room for data), then the others, each group in opcode order. The name is the row's mnemonic:
`Ind` marks a memory operand in parentheses, `Inc` and `Dec` its post-increment and post-decrement forms.
Arguments: `v` a byte d8, `w` a word d16, `t` an address a16, `o` a high-page offset a8, `e` a signed byte
r8, `pad` the ignored byte of STOP (R81, R89). -/
inductive Instr where
  -- with operand bytes (R99)
  | ldBcD16 (w : Word)
  | ldBD8 (v : Byte)
  | ldIndA16Sp (t : Word)
  | ldCD8 (v : Byte)
  | stop (pad : Byte)
  | ldDeD16 (w : Word)
  | ldDD8 (v : Byte)
  | jrR8 (e : Byte)
  | ldED8 (v : Byte)
  | jrNzR8 (e : Byte)
  | ldHlD16 (w : Word)
  | ldHD8 (v : Byte)
  | jrZR8 (e : Byte)
  | ldLD8 (v : Byte)
  | jrNcR8 (e : Byte)
  | ldSpD16 (w : Word)
  | ldIndHlD8 (v : Byte)
  | jrCR8 (e : Byte)
  | ldAD8 (v : Byte)
  | jpNzA16 (t : Word)
  | jpA16 (t : Word)
  | callNzA16 (t : Word)
  | addAD8 (v : Byte)
  | jpZA16 (t : Word)
  | callZA16 (t : Word)
  | callA16 (t : Word)
  | adcAD8 (v : Byte)
  | jpNcA16 (t : Word)
  | callNcA16 (t : Word)
  | subD8 (v : Byte)
  | jpCA16 (t : Word)
  | callCA16 (t : Word)
  | sbcAD8 (v : Byte)
  | ldhIndA8A (o : Byte)
  | andD8 (v : Byte)
  | addSpR8 (e : Byte)
  | ldIndA16A (t : Word)
  | xorD8 (v : Byte)
  | ldhAIndA8 (o : Byte)
  | orD8 (v : Byte)
  | ldHlSpR8 (e : Byte)
  | ldAIndA16 (t : Word)
  | cpD8 (v : Byte)
  -- opcode byte only, 0x00 to 0x3F, quadrant x = 0 (R90)
  | nop
  | ldBcA
  | incBc
  | incB
  | decB
  | rlca
  | addHlBc
  | ldAIndBc
  | decBc
  | incC
  | decC
  | rrca
  | ldIndDeA
  | incDe
  | incD
  | decD
  | rla
  | addHlDe
  | ldAIndDe
  | decDe
  | incE
  | decE
  | rra
  | ldIndHlIncA
  | incHl
  | incH
  | decH
  | daa
  | addHlHl
  | ldAIndHlInc
  | decHl
  | incL
  | decL
  | cpl
  | ldIndHlDecA
  | incSp
  | incIndHl
  | decIndHl
  | scf
  | addHlSp
  | ldAIndHlDec
  | decSp
  | incA
  | decA
  | ccf
  -- 0x40 to 0x7F, quadrant x = 1: LD r,r' and HALT (R90)
  | ldBB
  | ldBC
  | ldBD
  | ldBE
  | ldBH
  | ldBL
  | ldBIndHl
  | ldBA
  | ldCB
  | ldCC
  | ldCD
  | ldCE
  | ldCH
  | ldCL
  | ldCIndHl
  | ldCA
  | ldDB
  | ldDC
  | ldDD
  | ldDE
  | ldDH
  | ldDL
  | ldDIndHl
  | ldDA
  | ldEB
  | ldEC
  | ldED
  | ldEE
  | ldEH
  | ldEL
  | ldEIndHl
  | ldEA
  | ldHB
  | ldHC
  | ldHD
  | ldHE
  | ldHH
  | ldHL
  | ldHIndHl
  | ldHA
  | ldLB
  | ldLC
  | ldLD
  | ldLE
  | ldLH
  | ldLL
  | ldLIndHl
  | ldLA
  | ldIndHlB
  | ldIndHlC
  | ldIndHlD
  | ldIndHlE
  | ldIndHlH
  | ldIndHlL
  | halt
  | ldIndHlA
  | ldAB
  | ldAC
  | ldAD
  | ldAE
  | ldAH
  | ldAL
  | ldAIndHl
  | ldAA
  -- 0x80 to 0xBF, quadrant x = 2: alu[y] A, r[z] (R90)
  | addAB
  | addAC
  | addAD
  | addAE
  | addAH
  | addAL
  | addAIndHl
  | addAA
  | adcAB
  | adcAC
  | adcAD
  | adcAE
  | adcAH
  | adcAL
  | adcAIndHl
  | adcAA
  | subB
  | subC
  | subD
  | subE
  | subH
  | subL
  | subIndHl
  | subA
  | sbcAB
  | sbcAC
  | sbcAD
  | sbcAE
  | sbcAH
  | sbcAL
  | sbcAIndHl
  | sbcAA
  | andB
  | andC
  | andD
  | andE
  | andH
  | andL
  | andIndHl
  | andA
  | xorB
  | xorC
  | xorD
  | xorE
  | xorH
  | xorL
  | xorIndHl
  | xorA
  | orB
  | orC
  | orD
  | orE
  | orH
  | orL
  | orIndHl
  | orA
  | cpB
  | cpC
  | cpD
  | cpE
  | cpH
  | cpL
  | cpIndHl
  | cpA
  -- opcode byte only, 0xC0 to 0xFF, quadrant x = 3 (R90)
  | retNz
  | popBc
  | pushBc
  | rst00
  | retZ
  | ret
  | prefixCb
  | rst08
  | retNc
  | popDe
  | illegalD3
  | pushDe
  | rst10
  | retC
  | reti
  | illegalDB
  | illegalDD
  | rst18
  | popHl
  | ldIndCA
  | illegalE3
  | illegalE4
  | pushHl
  | rst20
  | jpHl
  | illegalEB
  | illegalEC
  | illegalED
  | rst28
  | popAf
  | ldAIndC
  | di
  | illegalF4
  | pushAf
  | rst30
  | ldSpHl
  | ei
  | illegalFC
  | illegalFD
  | rst38
  deriving DecidableEq, Repr

/-- LD r,r' (spec/44_load.md R190). -/
def Instr.ld : Reg8 → Reg8 → Instr
  | .b, .b => .ldBB | .b, .c => .ldBC | .b, .d => .ldBD | .b, .e => .ldBE | .b, .h => .ldBH | .b, .l => .ldBL | .b, .a => .ldBA
  | .c, .b => .ldCB | .c, .c => .ldCC | .c, .d => .ldCD | .c, .e => .ldCE | .c, .h => .ldCH | .c, .l => .ldCL | .c, .a => .ldCA
  | .d, .b => .ldDB | .d, .c => .ldDC | .d, .d => .ldDD | .d, .e => .ldDE | .d, .h => .ldDH | .d, .l => .ldDL | .d, .a => .ldDA
  | .e, .b => .ldEB | .e, .c => .ldEC | .e, .d => .ldED | .e, .e => .ldEE | .e, .h => .ldEH | .e, .l => .ldEL | .e, .a => .ldEA
  | .h, .b => .ldHB | .h, .c => .ldHC | .h, .d => .ldHD | .h, .e => .ldHE | .h, .h => .ldHH | .h, .l => .ldHL | .h, .a => .ldHA
  | .l, .b => .ldLB | .l, .c => .ldLC | .l, .d => .ldLD | .l, .e => .ldLE | .l, .h => .ldLH | .l, .l => .ldLL | .l, .a => .ldLA
  | .a, .b => .ldAB | .a, .c => .ldAC | .a, .d => .ldAD | .a, .e => .ldAE | .a, .h => .ldAH | .a, .l => .ldAL | .a, .a => .ldAA

/-- LD r,d8 (R191). -/
def Instr.ldImm : Reg8 → Byte → Instr
  | .b, v => .ldBD8 v
  | .c, v => .ldCD8 v
  | .d, v => .ldDD8 v
  | .e, v => .ldED8 v
  | .h, v => .ldHD8 v
  | .l, v => .ldLD8 v
  | .a, v => .ldAD8 v

/-- LD r,(HL) (R192). -/
def Instr.ldFromHl : Reg8 → Instr
  | .b => .ldBIndHl | .c => .ldCIndHl | .d => .ldDIndHl | .e => .ldEIndHl | .h => .ldHIndHl | .l => .ldLIndHl | .a => .ldAIndHl

/-- LD (HL),r (R193). -/
def Instr.ldToHl : Reg8 → Instr
  | .b => .ldIndHlB | .c => .ldIndHlC | .d => .ldIndHlD | .e => .ldIndHlE | .h => .ldIndHlH | .l => .ldIndHlL | .a => .ldIndHlA

/-- alu A,r (spec/41_alu8.md R122 to R143). -/
def Instr.alu : AluOp → Reg8 → Instr
  | .add, .b => .addAB | .add, .c => .addAC | .add, .d => .addAD | .add, .e => .addAE | .add, .h => .addAH | .add, .l => .addAL | .add, .a => .addAA
  | .adc, .b => .adcAB | .adc, .c => .adcAC | .adc, .d => .adcAD | .adc, .e => .adcAE | .adc, .h => .adcAH | .adc, .l => .adcAL | .adc, .a => .adcAA
  | .sub, .b => .subB | .sub, .c => .subC | .sub, .d => .subD | .sub, .e => .subE | .sub, .h => .subH | .sub, .l => .subL | .sub, .a => .subA
  | .sbc, .b => .sbcAB | .sbc, .c => .sbcAC | .sbc, .d => .sbcAD | .sbc, .e => .sbcAE | .sbc, .h => .sbcAH | .sbc, .l => .sbcAL | .sbc, .a => .sbcAA
  | .and, .b => .andB | .and, .c => .andC | .and, .d => .andD | .and, .e => .andE | .and, .h => .andH | .and, .l => .andL | .and, .a => .andA
  | .xor, .b => .xorB | .xor, .c => .xorC | .xor, .d => .xorD | .xor, .e => .xorE | .xor, .h => .xorH | .xor, .l => .xorL | .xor, .a => .xorA
  | .or, .b => .orB | .or, .c => .orC | .or, .d => .orD | .or, .e => .orE | .or, .h => .orH | .or, .l => .orL | .or, .a => .orA
  | .cp, .b => .cpB | .cp, .c => .cpC | .cp, .d => .cpD | .cp, .e => .cpE | .cp, .h => .cpH | .cp, .l => .cpL | .cp, .a => .cpA

/-- alu A,(HL) (R123 to R144). -/
def Instr.aluHl : AluOp → Instr
  | .add => .addAIndHl
  | .adc => .adcAIndHl
  | .sub => .subIndHl
  | .sbc => .sbcAIndHl
  | .and => .andIndHl
  | .xor => .xorIndHl
  | .or => .orIndHl
  | .cp => .cpIndHl

/-- alu A,d8 (R124 to R145). -/
def Instr.aluImm : AluOp → Byte → Instr
  | .add, v => .addAD8 v
  | .adc, v => .adcAD8 v
  | .sub, v => .subD8 v
  | .sbc, v => .sbcAD8 v
  | .and, v => .andD8 v
  | .xor, v => .xorD8 v
  | .or, v => .orD8 v
  | .cp, v => .cpD8 v

/-- INC r (R148). -/
def Instr.inc : Reg8 → Instr
  | .b => .incB | .c => .incC | .d => .incD | .e => .incE | .h => .incH | .l => .incL | .a => .incA

/-- DEC r (R150). -/
def Instr.dec : Reg8 → Instr
  | .b => .decB | .c => .decC | .d => .decD | .e => .decE | .h => .decH | .l => .decL | .a => .decA

/-- LD rr,d16 (spec/44_load.md R203). -/
def Instr.ldPair : Pair → Word → Instr
  | .bc, w => .ldBcD16 w
  | .de, w => .ldDeD16 w
  | .hl, w => .ldHlD16 w
  | .sp, w => .ldSpD16 w

/-- ADD HL,rr (spec/42_alu16.md R170). -/
def Instr.addHl : Pair → Instr
  | .bc => .addHlBc | .de => .addHlDe | .hl => .addHlHl | .sp => .addHlSp

/-- INC rr (R171). -/
def Instr.incPair : Pair → Instr
  | .bc => .incBc | .de => .incDe | .hl => .incHl | .sp => .incSp

/-- DEC rr (R172). -/
def Instr.decPair : Pair → Instr
  | .bc => .decBc | .de => .decDe | .hl => .decHl | .sp => .decSp

/-- PUSH rr (spec/45_control.md R244). -/
def Instr.push : StackPair → Instr
  | .bc => .pushBc | .de => .pushDe | .hl => .pushHl | .af => .pushAf

/-- POP rr (R245, R246). -/
def Instr.pop : StackPair → Instr
  | .bc => .popBc | .de => .popDe | .hl => .popHl | .af => .popAf

/-- JR cc,r8 (R234). -/
def Instr.jrIf : Cond → Byte → Instr
  | .nz, e => .jrNzR8 e
  | .z, e => .jrZR8 e
  | .nc, e => .jrNcR8 e
  | .c, e => .jrCR8 e

/-- JP cc,a16 (R236). -/
def Instr.jpIf : Cond → Word → Instr
  | .nz, t => .jpNzA16 t
  | .z, t => .jpZA16 t
  | .nc, t => .jpNcA16 t
  | .c, t => .jpCA16 t

/-- CALL cc,a16 (R239). -/
def Instr.callIf : Cond → Word → Instr
  | .nz, t => .callNzA16 t
  | .z, t => .callZA16 t
  | .nc, t => .callNcA16 t
  | .c, t => .callCA16 t

/-- RET cc (R241). -/
def Instr.retIf : Cond → Instr
  | .nz => .retNz | .z => .retZ | .nc => .retNc | .c => .retC

/-- RST n, by its field y: the target is 8 × y (R243). -/
def Instr.rst : BitVec 3 → Instr
  | 0#3 => .rst00 | 1#3 => .rst08 | 2#3 => .rst10 | 3#3 => .rst18 | 4#3 => .rst20 | 5#3 => .rst28 | 6#3 => .rst30 | 7#3 => .rst38

end Sys2Proof
end

