-- ==== Sys2Proof/WellFormed.lean ====
section
/-! DEFINITION. Which instructions have a defined behaviour (spec/30_encoding.md R91 to R93, R97). Every
operand has exactly the width of its field, so no operand can be out of range. -/

namespace Sys2Proof

/-- One of the 11 rows with no defined behaviour (R91). -/
def Instr.illegal : Instr → Bool
  | .illegalD3 | .illegalDB | .illegalDD | .illegalE3 | .illegalE4 | .illegalEB | .illegalEC | .illegalED
  | .illegalF4 | .illegalFC | .illegalFD => true
  | _ => false

/-- The escape 0xCB, whose page is not implemented (R92). -/
def Instr.notImplemented : Instr → Bool
  | .prefixCb => true
  | _ => false

/-- The 244 rows that execute: neither illegal nor the escape. Every other row is a defined instruction
with its own rule (R93); the 12 rows this refuses still have a meaning, which is to fault. -/
def Instr.wellFormed (i : Instr) : Bool := !i.illegal && !i.notImplemented

end Sys2Proof
end

