-- ==== Sys2Proof/Decode.lean ====
section
/-! DEFINITION. Decoding (spec/30_encoding.md R80 to R99): the opcode grid of R90, the decoder over a list
of bytes, the reading of a table word, and the encoder. -/

namespace Sys2Proof

/-- `hi:lo`, the word of two bytes (spec/00_scope.md R8). -/
def wordOf (hi lo : Byte) : Word := hi ++ lo

/-- `lo8(w) = w[7:0]` (R8). -/
def lo8 (w : Word) : Byte := w.extractLsb' 0 8

/-- `hi8(w) = w[15:8]` (R8). -/
def hi8 (w : Word) : Byte := w.extractLsb' 8 8

/-- What follows an opcode byte, and the instruction it makes (R81, R99). -/
inductive Form where
  | op (i : Instr)
  | imm8 (mk : Byte → Instr)
  | imm16 (mk : Word → Instr)

/-- The length in bytes, which the opcode alone determines (R80, R99). -/
def Form.length : Form → Nat
  | .op _ => 1
  | .imm8 _ => 2
  | .imm16 _ => 3

/-- Row 0x of the grid of R90. -/
def gridRow0 : List Form := [
  .op .nop, .imm16 .ldBcD16, .op .ldBcA, .op .incBc, .op .incB, .op .decB, .imm8 .ldBD8, .op .rlca,
  .imm16 .ldIndA16Sp, .op .addHlBc, .op .ldAIndBc, .op .decBc, .op .incC, .op .decC, .imm8 .ldCD8, .op .rrca]

/-- Row 1x of the grid of R90. -/
def gridRow1 : List Form := [
  .imm8 .stop, .imm16 .ldDeD16, .op .ldIndDeA, .op .incDe, .op .incD, .op .decD, .imm8 .ldDD8, .op .rla,
  .imm8 .jrR8, .op .addHlDe, .op .ldAIndDe, .op .decDe, .op .incE, .op .decE, .imm8 .ldED8, .op .rra]

/-- Row 2x of the grid of R90. -/
def gridRow2 : List Form := [
  .imm8 .jrNzR8, .imm16 .ldHlD16, .op .ldIndHlIncA, .op .incHl, .op .incH, .op .decH, .imm8 .ldHD8, .op .daa,
  .imm8 .jrZR8, .op .addHlHl, .op .ldAIndHlInc, .op .decHl, .op .incL, .op .decL, .imm8 .ldLD8, .op .cpl]

/-- Row 3x of the grid of R90. -/
def gridRow3 : List Form := [
  .imm8 .jrNcR8, .imm16 .ldSpD16, .op .ldIndHlDecA, .op .incSp, .op .incIndHl, .op .decIndHl, .imm8 .ldIndHlD8, .op .scf,
  .imm8 .jrCR8, .op .addHlSp, .op .ldAIndHlDec, .op .decSp, .op .incA, .op .decA, .imm8 .ldAD8, .op .ccf]

/-- Row 4x of the grid of R90. -/
def gridRow4 : List Form := [
  .op .ldBB, .op .ldBC, .op .ldBD, .op .ldBE, .op .ldBH, .op .ldBL, .op .ldBIndHl, .op .ldBA,
  .op .ldCB, .op .ldCC, .op .ldCD, .op .ldCE, .op .ldCH, .op .ldCL, .op .ldCIndHl, .op .ldCA]

/-- Row 5x of the grid of R90. -/
def gridRow5 : List Form := [
  .op .ldDB, .op .ldDC, .op .ldDD, .op .ldDE, .op .ldDH, .op .ldDL, .op .ldDIndHl, .op .ldDA,
  .op .ldEB, .op .ldEC, .op .ldED, .op .ldEE, .op .ldEH, .op .ldEL, .op .ldEIndHl, .op .ldEA]

/-- Row 6x of the grid of R90. -/
def gridRow6 : List Form := [
  .op .ldHB, .op .ldHC, .op .ldHD, .op .ldHE, .op .ldHH, .op .ldHL, .op .ldHIndHl, .op .ldHA,
  .op .ldLB, .op .ldLC, .op .ldLD, .op .ldLE, .op .ldLH, .op .ldLL, .op .ldLIndHl, .op .ldLA]

/-- Row 7x of the grid of R90. -/
def gridRow7 : List Form := [
  .op .ldIndHlB, .op .ldIndHlC, .op .ldIndHlD, .op .ldIndHlE, .op .ldIndHlH, .op .ldIndHlL, .op .halt, .op .ldIndHlA,
  .op .ldAB, .op .ldAC, .op .ldAD, .op .ldAE, .op .ldAH, .op .ldAL, .op .ldAIndHl, .op .ldAA]

/-- Row 8x of the grid of R90. -/
def gridRow8 : List Form := [
  .op .addAB, .op .addAC, .op .addAD, .op .addAE, .op .addAH, .op .addAL, .op .addAIndHl, .op .addAA,
  .op .adcAB, .op .adcAC, .op .adcAD, .op .adcAE, .op .adcAH, .op .adcAL, .op .adcAIndHl, .op .adcAA]

/-- Row 9x of the grid of R90. -/
def gridRow9 : List Form := [
  .op .subB, .op .subC, .op .subD, .op .subE, .op .subH, .op .subL, .op .subIndHl, .op .subA,
  .op .sbcAB, .op .sbcAC, .op .sbcAD, .op .sbcAE, .op .sbcAH, .op .sbcAL, .op .sbcAIndHl, .op .sbcAA]

/-- Row Ax of the grid of R90. -/
def gridRowA : List Form := [
  .op .andB, .op .andC, .op .andD, .op .andE, .op .andH, .op .andL, .op .andIndHl, .op .andA,
  .op .xorB, .op .xorC, .op .xorD, .op .xorE, .op .xorH, .op .xorL, .op .xorIndHl, .op .xorA]

/-- Row Bx of the grid of R90. -/
def gridRowB : List Form := [
  .op .orB, .op .orC, .op .orD, .op .orE, .op .orH, .op .orL, .op .orIndHl, .op .orA,
  .op .cpB, .op .cpC, .op .cpD, .op .cpE, .op .cpH, .op .cpL, .op .cpIndHl, .op .cpA]

/-- Row Cx of the grid of R90. -/
def gridRowC : List Form := [
  .op .retNz, .op .popBc, .imm16 .jpNzA16, .imm16 .jpA16, .imm16 .callNzA16, .op .pushBc, .imm8 .addAD8, .op .rst00,
  .op .retZ, .op .ret, .imm16 .jpZA16, .op .prefixCb, .imm16 .callZA16, .imm16 .callA16, .imm8 .adcAD8, .op .rst08]

/-- Row Dx of the grid of R90. -/
def gridRowD : List Form := [
  .op .retNc, .op .popDe, .imm16 .jpNcA16, .op .illegalD3, .imm16 .callNcA16, .op .pushDe, .imm8 .subD8, .op .rst10,
  .op .retC, .op .reti, .imm16 .jpCA16, .op .illegalDB, .imm16 .callCA16, .op .illegalDD, .imm8 .sbcAD8, .op .rst18]

/-- Row Ex of the grid of R90. -/
def gridRowE : List Form := [
  .imm8 .ldhIndA8A, .op .popHl, .op .ldIndCA, .op .illegalE3, .op .illegalE4, .op .pushHl, .imm8 .andD8, .op .rst20,
  .imm8 .addSpR8, .op .jpHl, .imm16 .ldIndA16A, .op .illegalEB, .op .illegalEC, .op .illegalED, .imm8 .xorD8, .op .rst28]

/-- Row Fx of the grid of R90. -/
def gridRowF : List Form := [
  .imm8 .ldhAIndA8, .op .popAf, .op .ldAIndC, .op .di, .op .illegalF4, .op .pushAf, .imm8 .orD8, .op .rst30,
  .imm8 .ldHlSpR8, .op .ldSpHl, .imm16 .ldAIndA16, .op .ei, .op .illegalFC, .op .illegalFD, .imm8 .cpD8, .op .rst38]

/-- The grid of R90, read as row (high nibble) and column (low nibble). -/
def grid : List (List Form) :=
  [gridRow0, gridRow1, gridRow2, gridRow3, gridRow4, gridRow5, gridRow6, gridRow7] ++
  [gridRow8, gridRow9, gridRowA, gridRowB, gridRowC, gridRowD, gridRowE, gridRowF]

/-- The cell of an opcode byte (R90, R97). Every byte has one; the default is never taken. -/
def form (op : Byte) : Form := (grid.getD (op.toNat / 16) []).getD (op.toNat % 16) (.op .nop)

/-- Why a list of bytes holds no instruction: it is empty, or it ends inside one. No opcode byte is
refused (R97). -/
inductive DecodeError where
  | noBytes
  | truncated (opcode : Byte)
  deriving DecidableEq, Repr

/-- Decode the first instruction of a list of bytes, lowest address first, and give the rest back (R81).
A 16-bit operand has its low byte first (R88). -/
def decode : List Byte → Except DecodeError (Instr × List Byte)
  | [] => .error .noBytes
  | op :: rest =>
    match form op, rest with
    | .op i, rest => .ok (i, rest)
    | .imm8 mk, b :: rest => .ok (mk b, rest)
    | .imm16 mk, lo :: hi :: rest => .ok (mk (wordOf hi lo), rest)
    | _, _ => .error (.truncated op)

/-- The three bytes of a table word, the first in bits 7..0; every bit from `nbits` up is 0. -/
def tableBytes (nbits w : Nat) : List Byte :=
  let v := w % 2 ^ nbits
  [BitVec.ofNat 8 v, BitVec.ofNat 8 (v / 256), BitVec.ofNat 8 (v / 65536)]

/-- The instruction the decoder reads from a table word (the host's numbering of the bits). -/
def decodeTableWord (nbits w : Nat) : Option Instr :=
  match decode (tableBytes nbits w) with
  | .ok (i, _) => some i
  | .error _ => none

/-- The opcode byte of an instruction: the Encoding line of its rule. -/
def Instr.opcode : Instr → Byte
  | .nop => 0x00
  | .ldBcD16 _ => 0x01
  | .ldBcA => 0x02
  | .incBc => 0x03
  | .incB => 0x04
  | .decB => 0x05
  | .ldBD8 _ => 0x06
  | .rlca => 0x07
  | .ldIndA16Sp _ => 0x08
  | .addHlBc => 0x09
  | .ldAIndBc => 0x0A
  | .decBc => 0x0B
  | .incC => 0x0C
  | .decC => 0x0D
  | .ldCD8 _ => 0x0E
  | .rrca => 0x0F
  | .stop _ => 0x10
  | .ldDeD16 _ => 0x11
  | .ldIndDeA => 0x12
  | .incDe => 0x13
  | .incD => 0x14
  | .decD => 0x15
  | .ldDD8 _ => 0x16
  | .rla => 0x17
  | .jrR8 _ => 0x18
  | .addHlDe => 0x19
  | .ldAIndDe => 0x1A
  | .decDe => 0x1B
  | .incE => 0x1C
  | .decE => 0x1D
  | .ldED8 _ => 0x1E
  | .rra => 0x1F
  | .jrNzR8 _ => 0x20
  | .ldHlD16 _ => 0x21
  | .ldIndHlIncA => 0x22
  | .incHl => 0x23
  | .incH => 0x24
  | .decH => 0x25
  | .ldHD8 _ => 0x26
  | .daa => 0x27
  | .jrZR8 _ => 0x28
  | .addHlHl => 0x29
  | .ldAIndHlInc => 0x2A
  | .decHl => 0x2B
  | .incL => 0x2C
  | .decL => 0x2D
  | .ldLD8 _ => 0x2E
  | .cpl => 0x2F
  | .jrNcR8 _ => 0x30
  | .ldSpD16 _ => 0x31
  | .ldIndHlDecA => 0x32
  | .incSp => 0x33
  | .incIndHl => 0x34
  | .decIndHl => 0x35
  | .ldIndHlD8 _ => 0x36
  | .scf => 0x37
  | .jrCR8 _ => 0x38
  | .addHlSp => 0x39
  | .ldAIndHlDec => 0x3A
  | .decSp => 0x3B
  | .incA => 0x3C
  | .decA => 0x3D
  | .ldAD8 _ => 0x3E
  | .ccf => 0x3F
  | .ldBB => 0x40
  | .ldBC => 0x41
  | .ldBD => 0x42
  | .ldBE => 0x43
  | .ldBH => 0x44
  | .ldBL => 0x45
  | .ldBIndHl => 0x46
  | .ldBA => 0x47
  | .ldCB => 0x48
  | .ldCC => 0x49
  | .ldCD => 0x4A
  | .ldCE => 0x4B
  | .ldCH => 0x4C
  | .ldCL => 0x4D
  | .ldCIndHl => 0x4E
  | .ldCA => 0x4F
  | .ldDB => 0x50
  | .ldDC => 0x51
  | .ldDD => 0x52
  | .ldDE => 0x53
  | .ldDH => 0x54
  | .ldDL => 0x55
  | .ldDIndHl => 0x56
  | .ldDA => 0x57
  | .ldEB => 0x58
  | .ldEC => 0x59
  | .ldED => 0x5A
  | .ldEE => 0x5B
  | .ldEH => 0x5C
  | .ldEL => 0x5D
  | .ldEIndHl => 0x5E
  | .ldEA => 0x5F
  | .ldHB => 0x60
  | .ldHC => 0x61
  | .ldHD => 0x62
  | .ldHE => 0x63
  | .ldHH => 0x64
  | .ldHL => 0x65
  | .ldHIndHl => 0x66
  | .ldHA => 0x67
  | .ldLB => 0x68
  | .ldLC => 0x69
  | .ldLD => 0x6A
  | .ldLE => 0x6B
  | .ldLH => 0x6C
  | .ldLL => 0x6D
  | .ldLIndHl => 0x6E
  | .ldLA => 0x6F
  | .ldIndHlB => 0x70
  | .ldIndHlC => 0x71
  | .ldIndHlD => 0x72
  | .ldIndHlE => 0x73
  | .ldIndHlH => 0x74
  | .ldIndHlL => 0x75
  | .halt => 0x76
  | .ldIndHlA => 0x77
  | .ldAB => 0x78
  | .ldAC => 0x79
  | .ldAD => 0x7A
  | .ldAE => 0x7B
  | .ldAH => 0x7C
  | .ldAL => 0x7D
  | .ldAIndHl => 0x7E
  | .ldAA => 0x7F
  | .addAB => 0x80
  | .addAC => 0x81
  | .addAD => 0x82
  | .addAE => 0x83
  | .addAH => 0x84
  | .addAL => 0x85
  | .addAIndHl => 0x86
  | .addAA => 0x87
  | .adcAB => 0x88
  | .adcAC => 0x89
  | .adcAD => 0x8A
  | .adcAE => 0x8B
  | .adcAH => 0x8C
  | .adcAL => 0x8D
  | .adcAIndHl => 0x8E
  | .adcAA => 0x8F
  | .subB => 0x90
  | .subC => 0x91
  | .subD => 0x92
  | .subE => 0x93
  | .subH => 0x94
  | .subL => 0x95
  | .subIndHl => 0x96
  | .subA => 0x97
  | .sbcAB => 0x98
  | .sbcAC => 0x99
  | .sbcAD => 0x9A
  | .sbcAE => 0x9B
  | .sbcAH => 0x9C
  | .sbcAL => 0x9D
  | .sbcAIndHl => 0x9E
  | .sbcAA => 0x9F
  | .andB => 0xA0
  | .andC => 0xA1
  | .andD => 0xA2
  | .andE => 0xA3
  | .andH => 0xA4
  | .andL => 0xA5
  | .andIndHl => 0xA6
  | .andA => 0xA7
  | .xorB => 0xA8
  | .xorC => 0xA9
  | .xorD => 0xAA
  | .xorE => 0xAB
  | .xorH => 0xAC
  | .xorL => 0xAD
  | .xorIndHl => 0xAE
  | .xorA => 0xAF
  | .orB => 0xB0
  | .orC => 0xB1
  | .orD => 0xB2
  | .orE => 0xB3
  | .orH => 0xB4
  | .orL => 0xB5
  | .orIndHl => 0xB6
  | .orA => 0xB7
  | .cpB => 0xB8
  | .cpC => 0xB9
  | .cpD => 0xBA
  | .cpE => 0xBB
  | .cpH => 0xBC
  | .cpL => 0xBD
  | .cpIndHl => 0xBE
  | .cpA => 0xBF
  | .retNz => 0xC0
  | .popBc => 0xC1
  | .jpNzA16 _ => 0xC2
  | .jpA16 _ => 0xC3
  | .callNzA16 _ => 0xC4
  | .pushBc => 0xC5
  | .addAD8 _ => 0xC6
  | .rst00 => 0xC7
  | .retZ => 0xC8
  | .ret => 0xC9
  | .jpZA16 _ => 0xCA
  | .prefixCb => 0xCB
  | .callZA16 _ => 0xCC
  | .callA16 _ => 0xCD
  | .adcAD8 _ => 0xCE
  | .rst08 => 0xCF
  | .retNc => 0xD0
  | .popDe => 0xD1
  | .jpNcA16 _ => 0xD2
  | .illegalD3 => 0xD3
  | .callNcA16 _ => 0xD4
  | .pushDe => 0xD5
  | .subD8 _ => 0xD6
  | .rst10 => 0xD7
  | .retC => 0xD8
  | .reti => 0xD9
  | .jpCA16 _ => 0xDA
  | .illegalDB => 0xDB
  | .callCA16 _ => 0xDC
  | .illegalDD => 0xDD
  | .sbcAD8 _ => 0xDE
  | .rst18 => 0xDF
  | .ldhIndA8A _ => 0xE0
  | .popHl => 0xE1
  | .ldIndCA => 0xE2
  | .illegalE3 => 0xE3
  | .illegalE4 => 0xE4
  | .pushHl => 0xE5
  | .andD8 _ => 0xE6
  | .rst20 => 0xE7
  | .addSpR8 _ => 0xE8
  | .jpHl => 0xE9
  | .ldIndA16A _ => 0xEA
  | .illegalEB => 0xEB
  | .illegalEC => 0xEC
  | .illegalED => 0xED
  | .xorD8 _ => 0xEE
  | .rst28 => 0xEF
  | .ldhAIndA8 _ => 0xF0
  | .popAf => 0xF1
  | .ldAIndC => 0xF2
  | .di => 0xF3
  | .illegalF4 => 0xF4
  | .pushAf => 0xF5
  | .orD8 _ => 0xF6
  | .rst30 => 0xF7
  | .ldHlSpR8 _ => 0xF8
  | .ldSpHl => 0xF9
  | .ldAIndA16 _ => 0xFA
  | .ei => 0xFB
  | .illegalFC => 0xFC
  | .illegalFD => 0xFD
  | .cpD8 _ => 0xFE
  | .rst38 => 0xFF

/-- The operand bytes, in memory order: the low byte of a word first (R81, R88). -/
def Instr.operands : Instr → List Byte
  | .ldBcD16 w => [lo8 w, hi8 w]
  | .ldBD8 v => [v]
  | .ldIndA16Sp t => [lo8 t, hi8 t]
  | .ldCD8 v => [v]
  | .stop pad => [pad]
  | .ldDeD16 w => [lo8 w, hi8 w]
  | .ldDD8 v => [v]
  | .jrR8 e => [e]
  | .ldED8 v => [v]
  | .jrNzR8 e => [e]
  | .ldHlD16 w => [lo8 w, hi8 w]
  | .ldHD8 v => [v]
  | .jrZR8 e => [e]
  | .ldLD8 v => [v]
  | .jrNcR8 e => [e]
  | .ldSpD16 w => [lo8 w, hi8 w]
  | .ldIndHlD8 v => [v]
  | .jrCR8 e => [e]
  | .ldAD8 v => [v]
  | .jpNzA16 t => [lo8 t, hi8 t]
  | .jpA16 t => [lo8 t, hi8 t]
  | .callNzA16 t => [lo8 t, hi8 t]
  | .addAD8 v => [v]
  | .jpZA16 t => [lo8 t, hi8 t]
  | .callZA16 t => [lo8 t, hi8 t]
  | .callA16 t => [lo8 t, hi8 t]
  | .adcAD8 v => [v]
  | .jpNcA16 t => [lo8 t, hi8 t]
  | .callNcA16 t => [lo8 t, hi8 t]
  | .subD8 v => [v]
  | .jpCA16 t => [lo8 t, hi8 t]
  | .callCA16 t => [lo8 t, hi8 t]
  | .sbcAD8 v => [v]
  | .ldhIndA8A o => [o]
  | .andD8 v => [v]
  | .addSpR8 e => [e]
  | .ldIndA16A t => [lo8 t, hi8 t]
  | .xorD8 v => [v]
  | .ldhAIndA8 o => [o]
  | .orD8 v => [v]
  | .ldHlSpR8 e => [e]
  | .ldAIndA16 t => [lo8 t, hi8 t]
  | .cpD8 v => [v]
  | _ => []

/-- The bytes of an instruction, lowest address first (R81). -/
def encode (i : Instr) : List Byte := i.opcode :: i.operands

end Sys2Proof
end

