-- ==== Sys2Proof/Machine/State.lean ====
section
/-! DEFINITION. The state of the machine as plain data: what spec/10_state.md R35 lists, the memory behind
the interface of spec/20_memory.md R52 and R53, and the parameters and ports of R5 and R40. -/

namespace Sys2Proof.Machine

open Sys2Proof

/-- The two exception causes (spec/60_exceptions.md R300). -/
inductive FaultCause where
  | illegalOpcode
  | notImplemented
  deriving DecidableEq, Repr

/-- The mode of the dispatch FSM (R31). Only `running` has a step; the others are left by reset alone
(R305, R334). -/
inductive Mode where
  | running
  | halted
  | stopped
  | faulted (cause : FaultCause) (opcode : Byte)
  deriving DecidableEq, Repr

/-- What stands behind an address (R52, R53, R61, R70). `ram` answers reads and accepts writes, `rom`
answers reads and rejects writes, `unmapped` is absent and rejects writes, and `device` may answer
anything and accept or reject (log 3, log 5). -/
inductive Backing where
  | ram
  | rom
  | unmapped
  | device
  deriving DecidableEq, Repr

/-- A range of addresses, `first` to `last`, with one backing (R63: each address maps to one region). -/
structure Region where
  first   : Word
  last    : Word
  backing : Backing
  deriving DecidableEq, Repr

/-- The external memory as plain data. `cells` lists the stored bytes in the canonical form of
`Memory.wf`; `map` lists the regions, the first that holds an address deciding, and an address in none is
RAM; `device` is the state of what stands behind the device regions, one state for all of them, which
requests change by free functions (R51, R61; log 5). -/
structure Memory where
  cells  : List Host.Cell
  map    : List Region
  device : Nat
  deriving DecidableEq, Repr

/-- One memory request on the ports of R40 with the memory's answer: a read with its response (present
or absent, R52), a write with its accepted bit (R53). -/
inductive BusOp where
  | read  (addr : Word) (response : Option Byte)
  | write (addr : Word) (data : Byte) (accepted : Bool)
  deriving DecidableEq, Repr

/-- No step ends in the host's `fault`: the two faults of R300 are entries that the spec describes, so
they are next states with the mode `faulted` (log 2). The type has no constructor, which is safe: nothing
is hidden in it. -/
inductive Fault where
  deriving DecidableEq, Repr

/-- Why an instruction is refused. -/
inductive Refusal where
  /-- Raised by exec's arm for an instruction without a meaning; no arm of this model raises it, which is
  safe. -/
  | notModelled (mnemonic : String)
  deriving DecidableEq, Repr

/-- The state: the tuple of R35 with the memory, then the parameters (R5), the `opcode_in` port (R40) and
the requests of the last executed step (R40, R69; log 10). The pairs AF, BC, DE, HL are views (R22). -/
structure State where
  a        : Byte
  f        : Byte
  b        : Byte
  c        : Byte
  d        : Byte
  e        : Byte
  h        : Byte
  l        : Byte
  sp       : Word
  pc       : Word
  cycles   : Nat
  mode     : Mode
  mem      : Memory
  cfg      : Config
  opcodeIn : Byte
  bus      : List BusOp
  deriving DecidableEq, Repr

/-- What a step or a meaning answers. -/
abbrev Result := Host.Outcome State Fault Refusal

/-- The machine right after reset, DMG revision (R36, R330 to R333). Memory lists nothing (log 4), the
parameters stand at their defaults (R5), and `opcodeIn` at 0 (log 8). -/
def State.reset : State where
  a := 0x01
  f := 0xB0
  b := 0x00
  c := 0x13
  d := 0x00
  e := 0xD8
  h := 0x01
  l := 0x4D
  sp := 0xFFFE
  pc := 0x0100
  cycles := 0
  mode := .running
  mem := { cells := [], map := [], device := 0 }
  cfg := Config.default
  opcodeIn := 0x00
  bus := []

end Sys2Proof.Machine
end

