-- ==== Sys2Proof/Machine/Flags.lean ====
section
/-! DEFINITION. The flag register (spec/10_state.md R24 to R28) and every flag computation: the 8-bit
adder and subtracter (spec/41_alu8.md R120, R121), increment and decrement (R146, R147), decimal adjust
(R153), the 16-bit add (spec/42_alu16.md R170) and the SP offset (R173). Operands become natural numbers,
the sum is exact, and the result is narrowed at the end (spec/00_scope.md R7). -/

namespace Sys2Proof.Machine

open Sys2Proof

/-- F with the four flags in bits 7 to 4 and zeros below (R24). -/
def packFlags (z n h c : Bool) : Byte :=
  BitVec.ofBool z ++ BitVec.ofBool n ++ BitVec.ofBool h ++ BitVec.ofBool c ++ 0#4

/-- F.Z, bit 7 (R24). -/
def State.flagZ (s : State) : Bool := s.f.getLsbD 7

/-- F.N, bit 6 (R24). -/
def State.flagN (s : State) : Bool := s.f.getLsbD 6

/-- F.H, bit 5 (R24). -/
def State.flagH (s : State) : Bool := s.f.getLsbD 5

/-- F.C, bit 4 (R24). -/
def State.flagC (s : State) : Bool := s.f.getLsbD 4

/-- `flags(z, n, h, c)`: `none` is the spec's `-`, no change (R27). -/
def State.setFlags (z n h c : Option Bool) (s : State) : State :=
  { s with f := packFlags (z.getD s.flagZ) (n.getD s.flagN) (h.getD s.flagH) (c.getD s.flagC) }

/-- F with its low nibble dropped, as every write of AF stores it (R26). -/
def maskF (v : Byte) : Byte := v &&& 0xF0

/-- A byte result with the half-carry and carry bits. -/
structure Sum8 where
  res : Byte
  h   : Bool
  c   : Bool
  deriving DecidableEq, Repr

/-- `add8(a, b, cin)` (R120). -/
def add8 (a b : Byte) (cin : Bool) : Sum8 where
  res := BitVec.ofNat 8 (a.toNat + b.toNat + cin.toNat)
  h   := decide (a.toNat % 16 + b.toNat % 16 + cin.toNat > 0xF)
  c   := decide (a.toNat + b.toNat + cin.toNat > 0xFF)

/-- `SubHalfCarry(a, b, cin)`, by the parameter `SUB_HALF_CARRY` (R121). -/
def subHalf (rule : SubHalfCarry) (a b : Byte) (cin : Bool) : Bool :=
  match rule with
  | .low  => decide (a.toNat % 16 < b.toNat % 16 + cin.toNat)
  | .high => decide (a.toNat / 16 < b.toNat / 16)

/-- `sub8(a, b, cin)`; the borrow is exact (R121). -/
def sub8 (rule : SubHalfCarry) (a b : Byte) (cin : Bool) : Sum8 where
  res := BitVec.ofInt 8 ((a.toNat : Int) - b.toNat - cin.toNat)
  h   := subHalf rule a b cin
  c   := decide (a.toNat < b.toNat + cin.toNat)

/-- `inc8(v)`: the flags compare the old value with the new (R146). -/
def inc8 (v : Byte) : Sum8 :=
  let new := v + 1
  { res := new, h := decide (new.toNat % 16 < v.toNat % 16), c := decide (new < v) }

/-- `dec8(v)` (R147). -/
def dec8 (v : Byte) : Sum8 :=
  let new := v - 1
  { res := new, h := decide (new.toNat % 16 > v.toNat % 16), c := decide (new > v) }

/-- DAA's carry out (R153): after a subtraction C stays as it was. -/
def daaCarry (n c : Bool) (a : Byte) : Bool := if n then c else c || decide (a.toNat > 0x99)

/-- DAA's accumulator (R153). The low-nibble test reads the accumulator after the first adjustment, as
the pseudocode does; adding 0x60 leaves that nibble alone. -/
def daaResult (n h c : Bool) (a : Byte) : Byte :=
  if n then
    let a1 := if c then a - 0x60 else a
    if h then a1 - 0x06 else a1
  else
    let a1 := if daaCarry n c a then a + 0x60 else a
    if h || decide (a1.toNat % 16 > 0x9) then a1 + 0x06 else a1

/-- The sum of ADD HL,rr (R170). -/
def add16 (a b : Word) : Word := BitVec.ofNat 16 (a.toNat + b.toNat)

/-- H of ADD HL,rr: the carry out of bit 3 of the low byte (R170). -/
def add16Half (a b : Word) : Bool := decide (a.toNat % 16 + b.toNat % 16 > 0xF)

/-- C of ADD HL,rr: the carry out of bit 15 (R170). -/
def add16Carry (a b : Word) : Bool := decide (a.toNat + b.toNat > 0xFFFF)

/-- `sext_16(v)` (spec/00_scope.md R8). -/
def sext16 (v : Byte) : Word := v.signExtend 16

/-- `zext_16(v)` (R8). -/
def zext16 (v : Byte) : Word := v.zeroExtend 16

/-- The sum of `sp_plus(e)` (R173). -/
def spPlus (sp : Word) (e : Byte) : Word := sp + sext16 e

/-- H of `sp_plus(e)`: carry out of bit 3 of the unsigned low-byte add (R173). -/
def spPlusHalf (sp : Word) (e : Byte) : Bool := decide (sp.toNat % 16 + e.toNat % 16 > 0xF)

/-- C of `sp_plus(e)`: carry out of bit 7 of the unsigned low-byte add (R173). -/
def spPlusCarry (sp : Word) (e : Byte) : Bool := decide (sp.toNat % 256 + e.toNat > 0xFF)

end Sys2Proof.Machine
end

