-- ==== Sys2Proof/Machine/Memory.lean ====
section
/-! DEFINITION. The external memory: its stored bytes in canonical form, its regions, and its answers to
the two requests of spec/20_memory.md R52 and R53. -/

namespace Sys2Proof.Machine

open Sys2Proof

/-- What an address that `cells` does not list holds: 0x00, as in the reference memory of
spec/95_test_vectors.md (R70). DESIGN CHOICE, unsafe: the spec leaves the initial contents to `MEMORY`
(log 4). -/
def unlistedByte : Byte := 0x00

/-- The byte a list of cells holds at an address. -/
def lookupCell (a : Nat) : List Host.Cell → Byte
  | [] => unlistedByte
  | (k, v) :: rest => if a = k then v else lookupCell a rest

/-- Put a byte at an address, keeping the list sorted; the unlisted byte is never listed. -/
def putCell (a : Nat) (v : Byte) : List Host.Cell → List Host.Cell
  | [] => if v = unlistedByte then [] else [(a, v)]
  | (k, x) :: rest =>
    if k < a then (k, x) :: putCell a v rest
    else if a = k then (if v = unlistedByte then rest else (a, v) :: rest)
    else (if v = unlistedByte then (k, x) :: rest else (a, v) :: (k, x) :: rest)

/-- The canonical form from an address on: addresses strictly rise, stay in the 16-bit space (R50), and
no entry is the unlisted byte. -/
def cellsWf (from_ : Nat) : List Host.Cell → Bool
  | [] => true
  | (k, v) :: rest => decide (from_ ≤ k) && decide (k < 65536) && decide (v ≠ unlistedByte) && cellsWf (k + 1) rest

/-- The memory is in canonical form. -/
def Memory.wf (m : Memory) : Bool := cellsWf 0 m.cells

/-- The byte stored at an address, whatever its region answers. -/
def Memory.byteAt (m : Memory) (a : Word) : Byte := lookupCell a.toNat m.cells

/-- The region holds the address. -/
def Region.holds (r : Region) (a : Word) : Bool := decide (r.first ≤ a) && decide (a ≤ r.last)

/-- The backing of an address in a list of regions: the first that holds it, else RAM. -/
def backingIn (a : Word) : List Region → Backing
  | [] => .ram
  | r :: rest => if r.holds a then r.backing else backingIn a rest

/-- The backing of an address. -/
def Memory.backingAt (m : Memory) (a : Word) : Backing := backingIn a m.map

/-- The response to a byte read request: `some b` for present(b), `none` for absent (R52). -/
def Memory.answer (m : Memory) (a : Word) : Option Byte :=
  match m.backingAt a with
  | .ram | .rom => some (m.byteAt a)
  | .unmapped   => none
  | .device     => Config.deviceRead m.device a

/-- The memory after a byte read request. Only a device may change (R52, R61). -/
def Memory.afterRead (m : Memory) (a : Word) : Memory :=
  match m.backingAt a with
  | .ram | .rom | .unmapped => m
  | .device => { m with device := Config.deviceAfterRead m.device a }

/-- The accepted bit of a byte write request (R53). -/
def Memory.accepts (m : Memory) (a : Word) (v : Byte) : Bool :=
  match m.backingAt a with
  | .ram            => true
  | .rom | .unmapped => false
  | .device         => Config.deviceAccepts m.device a v

/-- The memory after a byte write request: RAM stores the byte, a device that accepts the write takes a
free next state, which may depend on the byte (R51), and a rejected write changes nothing (R53). -/
def Memory.store (m : Memory) (a : Word) (v : Byte) : Memory :=
  match m.backingAt a with
  | .ram             => { m with cells := putCell a.toNat v m.cells }
  | .rom | .unmapped => m
  | .device          =>
    if Config.deviceAccepts m.device a v then { m with device := Config.deviceAfterWrite m.device a v } else m

/-- Place a byte from outside the machine (loading a program): the cell is written whatever the region,
and an address that would not answer a read with its cell gets a region that does. -/
def Memory.place (m : Memory) (a : Word) (v : Byte) : Memory :=
  let cells := putCell a.toNat v m.cells
  match m.backingAt a with
  | .ram | .rom          => { m with cells := cells }
  | .unmapped | .device  => { m with cells := cells, map := { first := a, last := a, backing := .rom } :: m.map }

/-- Place bytes at ascending addresses, wrapping past 0xFFFF (R59). -/
def Memory.placeAll (m : Memory) (a : Word) : List Byte → Memory
  | [] => m
  | v :: rest => (m.place a v).placeAll (a + 1) rest

end Sys2Proof.Machine
end

