-- ==== Sys2Proof/Machine/Ops.lean ====
section
/-! DEFINITION. The named operations on the state: registers and pairs (spec/10_state.md R21, R22), the
memory primitives (spec/20_memory.md R54 to R57), the stack (spec/45_control.md R231, R232), taking an
exception (spec/60_exceptions.md R301, R302), stopping (R315), reset (R334) and the output ports (R40). -/

namespace Sys2Proof.Machine

open Sys2Proof

/-- `x[AF]` (R22). -/
def State.af (s : State) : Word := wordOf s.a s.f

/-- `x[BC]` (R22). -/
def State.bc (s : State) : Word := wordOf s.b s.c

/-- `x[DE]` (R22). -/
def State.de (s : State) : Word := wordOf s.d s.e

/-- `x[HL]` (R22). -/
def State.hl (s : State) : Word := wordOf s.h s.l

/-- `x[AF] <- v`: the low nibble of F is dropped (R26). -/
def State.setAf (v : Word) (s : State) : State := { s with a := hi8 v, f := maskF (lo8 v) }

/-- `x[BC] <- v` (R22). -/
def State.setBc (v : Word) (s : State) : State := { s with b := hi8 v, c := lo8 v }

/-- `x[DE] <- v` (R22). -/
def State.setDe (v : Word) (s : State) : State := { s with d := hi8 v, e := lo8 v }

/-- `x[HL] <- v` (R22). -/
def State.setHl (v : Word) (s : State) : State := { s with h := hi8 v, l := lo8 v }

/-- `A <- v`. -/
def State.setA (v : Byte) (s : State) : State := { s with a := v }

/-- `SP <- v` (R29). -/
def State.setSp (v : Word) (s : State) : State := { s with sp := v }

/-- `PC <- v` (R30). -/
def State.setPc (v : Word) (s : State) : State := { s with pc := v }

/-- PC past `n` bytes of the instruction: the prologue's one and one for each operand byte (R30, R87). -/
def State.advance (n : Nat) (s : State) : State := { s with pc := s.pc + BitVec.ofNat 16 n }

/-- `cycles += k` (R32, R98). -/
def State.tick (k : Nat) (s : State) : State := { s with cycles := s.cycles + k }

/-- `MemRead(addr, 1)`, its value: an absent byte reads as 0x00 (R54). -/
def State.readByte (addr : Word) (s : State) : Byte := (s.mem.answer addr).getD 0x00

/-- `MemRead(addr, 1)`, its effect: one request on the bus (R52, R61). -/
def State.afterRead (addr : Word) (s : State) : State :=
  { s with mem := s.mem.afterRead addr, bus := s.bus ++ [.read addr (s.mem.answer addr)] }

/-- `MemRead(addr, 2)`, its value: low byte first, each half substituted on its own (R55). -/
def State.readWord (addr : Word) (s : State) : Word :=
  wordOf ((s.afterRead addr).readByte (addr + 1)) (s.readByte addr)

/-- `MemRead(addr, 2)`, its effect: two requests, low byte first (R55, R69). -/
def State.afterReadWord (addr : Word) (s : State) : State := (s.afterRead addr).afterRead (addr + 1)

/-- `MemWrite(addr, 1, v)`: one request; nothing of the block depends on the answer (R53, R56). -/
def State.writeByte (addr : Word) (v : Byte) (s : State) : State :=
  { s with mem := s.mem.store addr v, bus := s.bus ++ [.write addr v (s.mem.accepts addr v)] }

/-- `MemWrite(addr, 2, v)`: low byte first, both always sent (R57). -/
def State.writeWord (addr : Word) (v : Word) (s : State) : State :=
  (s.writeByte addr (lo8 v)).writeByte (addr + 1) (hi8 v)

/-- `push16(v)`: SP is decremented before the write (R231). -/
def State.push16 (v : Word) (s : State) : State := (s.setSp (s.sp - 2)).writeWord (s.sp - 2) v

/-- `pop16()`, its value (R232). -/
def State.popValue (s : State) : Word := s.readWord s.sp

/-- `pop16()`, its effect: SP is incremented after the read (R232). -/
def State.afterPop (s : State) : State := (s.afterReadWord s.sp).setSp (s.sp + 2)

/-- Taking an exception: the mode records the cause and the opcode, and nothing else changes. No state is
saved, no vector is fetched, PC and cycles stay (R301, R302, R303). There is no return: the spec has no
trap return (R308). -/
def State.raise (cause : FaultCause) (opcode : Byte) (s : State) : State :=
  { s with mode := .faulted cause opcode }

/-- `halt_fsm(m)` for the modes Halted and Stopped (spec/00_scope.md R11, R315). -/
def State.haltFsm (m : Mode) (s : State) : State := { s with mode := m }

/-- The block takes a step only when its mode is Running (R40, R305). -/
def State.canStep (s : State) : Bool := decide (s.mode = .running)

/-- The requests recorded on the bus are those of one step: a step starts with none (log 10). -/
def State.beginStep (s : State) : State := { s with bus := [] }

/-- The reset event, for the revision the `revision` port selects, in any mode. Memory is not touched and
no request is made (R334, R36). -/
def State.resetBlock (s : State) : State :=
  let r := Config.regInit s.cfg.revision
  { s with
    a := r.a, f := r.flags ++ 0#4, b := hi8 r.bc, c := lo8 r.bc, d := hi8 r.de, e := lo8 r.de,
    h := hi8 r.hl, l := lo8 r.hl, sp := 0xFFFE, pc := 0x0100, cycles := 0, mode := .running, bus := [] }

/-- The cause code on the `fault_cause` port: IllegalOpcode 0, NotImplemented 1 (R300). -/
def FaultCause.portCode : FaultCause → BitVec 1
  | .illegalOpcode  => 0
  | .notImplemented => 1

/-- The `fault_cause` port, when the mode is Faulted (R40). -/
def State.faultCause (s : State) : Option (BitVec 1) :=
  match s.mode with
  | .faulted cause _ => some cause.portCode
  | .running | .halted | .stopped => none

/-- The `fault_opcode` port, when the mode is Faulted (R40). -/
def State.faultOpcode (s : State) : Option Byte :=
  match s.mode with
  | .faulted _ op => some op
  | .running | .halted | .stopped => none

end Sys2Proof.Machine
end

