-- ==== Sys2Proof/Machine/Operands.lean ====
section
/-! DEFINITION. Every operand form: registers, pairs and stack pairs by field (spec/30_encoding.md R83,
R84), conditions (spec/45_control.md R230), addresses (R89, spec/44_load.md), and the three sources of an
8-bit operand (register, byte at HL, immediate). -/

namespace Sys2Proof.Machine

open Sys2Proof

/-- `x[r]` (R83). -/
def State.reg (r : Reg8) (s : State) : Byte :=
  match r with
  | .b => s.b | .c => s.c | .d => s.d | .e => s.e | .h => s.h | .l => s.l | .a => s.a

/-- `x[r] <- v` (R83). -/
def State.setReg (r : Reg8) (v : Byte) (s : State) : State :=
  match r with
  | .b => { s with b := v } | .c => { s with c := v } | .d => { s with d := v } | .e => { s with e := v }
  | .h => { s with h := v } | .l => { s with l := v } | .a => { s with a := v }

/-- `x[rr]` for BC, DE, HL, SP (R84). -/
def State.pair (p : Pair) (s : State) : Word :=
  match p with
  | .bc => s.bc | .de => s.de | .hl => s.hl | .sp => s.sp

/-- `x[rr] <- v` for BC, DE, HL, SP (R84). -/
def State.setPair (p : Pair) (v : Word) (s : State) : State :=
  match p with
  | .bc => s.setBc v | .de => s.setDe v | .hl => s.setHl v | .sp => s.setSp v

/-- `x[rr]` for BC, DE, HL, AF (R84). -/
def State.stackPair (p : StackPair) (s : State) : Word :=
  match p with
  | .bc => s.bc | .de => s.de | .hl => s.hl | .af => s.af

/-- `x[rr] <- v` for BC, DE, HL, AF (R84, R26). -/
def State.setStackPair (p : StackPair) (v : Word) (s : State) : State :=
  match p with
  | .bc => s.setBc v | .de => s.setDe v | .hl => s.setHl v | .af => s.setAf v

/-- `cond(cc)` (R230). -/
def State.cond (cc : Cond) (s : State) : Bool :=
  match cc with
  | .nz => !s.flagZ | .z => s.flagZ | .nc => !s.flagC | .c => s.flagC

/-- The high-page address `0xFF00 + zext_16(o)` (R89). -/
def highPage (o : Byte) : Word := 0xFF00 + zext16 o

/-- The target of RST y: 8 × y (R243). -/
def rstTarget (y : BitVec 3) : Word := y.zeroExtend 16 * 8

end Sys2Proof.Machine
end

