-- ==== Sys2Proof/Machine/Alu16.lean ====
section
/-! DEFINITION. 16-bit arithmetic (spec/42_alu16.md R170 to R175). -/

namespace Sys2Proof.Machine

open Sys2Proof

/-- ADD HL,rr: Z is never written (R170). -/
def addToHl (p : Pair) (s : State) : State :=
  (((s.advance 1).setHl (add16 s.hl (s.pair p))).setFlags none (some false)
    (some (add16Half s.hl (s.pair p))) (some (add16Carry s.hl (s.pair p)))).tick 8

/-- INC rr: no flags (R171). -/
def incPairBy1 (p : Pair) (s : State) : State := ((s.advance 1).setPair p (s.pair p + 1)).tick 8

/-- DEC rr: no flags (R172). -/
def decPairBy1 (p : Pair) (s : State) : State := ((s.advance 1).setPair p (s.pair p - 1)).tick 8

/-- The flags of `sp_plus(e)`: Z and N cleared, H and C from the low byte (R173). -/
def State.spPlusFlags (e : Byte) (s : State) : State :=
  s.setFlags (some false) (some false) (some (spPlusHalf s.sp e)) (some (spPlusCarry s.sp e))

/-- ADD SP,r8 (R174). -/
def addSpOffset (e : Byte) (s : State) : State :=
  (((s.advance 2).spPlusFlags e).setSp (spPlus s.sp e)).tick 16

/-- LD HL,SP+r8: SP is not written (R175). -/
def loadHlSpOffset (e : Byte) (s : State) : State :=
  (((s.advance 2).spPlusFlags e).setHl (spPlus s.sp e)).tick 16

/-- ADD HL,BC: opcode 0x09 (R170). -/
def execAddHlBc (s : State) : Result := .next (addToHl .bc s)

/-- ADD HL,DE: opcode 0x19 (R170). -/
def execAddHlDe (s : State) : Result := .next (addToHl .de s)

/-- ADD HL,HL: opcode 0x29 (R170). -/
def execAddHlHl (s : State) : Result := .next (addToHl .hl s)

/-- ADD HL,SP: opcode 0x39 (R170). -/
def execAddHlSp (s : State) : Result := .next (addToHl .sp s)

/-- INC BC: opcode 0x03 (R171). -/
def execIncBc (s : State) : Result := .next (incPairBy1 .bc s)

/-- INC DE: opcode 0x13 (R171). -/
def execIncDe (s : State) : Result := .next (incPairBy1 .de s)

/-- INC HL: opcode 0x23 (R171). -/
def execIncHl (s : State) : Result := .next (incPairBy1 .hl s)

/-- INC SP: opcode 0x33 (R171). -/
def execIncSp (s : State) : Result := .next (incPairBy1 .sp s)

/-- DEC BC: opcode 0x0B (R172). -/
def execDecBc (s : State) : Result := .next (decPairBy1 .bc s)

/-- DEC DE: opcode 0x1B (R172). -/
def execDecDe (s : State) : Result := .next (decPairBy1 .de s)

/-- DEC HL: opcode 0x2B (R172). -/
def execDecHl (s : State) : Result := .next (decPairBy1 .hl s)

/-- DEC SP: opcode 0x3B (R172). -/
def execDecSp (s : State) : Result := .next (decPairBy1 .sp s)

/-- ADD SP,r8: opcode 0xE8 (R174). -/
def execAddSpR8 (e : Byte) (s : State) : Result := .next (addSpOffset e s)

/-- LD HL,SP+r8: opcode 0xF8 (R175). -/
def execLdHlSpR8 (e : Byte) (s : State) : Result := .next (loadHlSpOffset e s)

end Sys2Proof.Machine
end

