-- ==== Sys2Proof/Machine/Alu8.lean ====
section
/-! DEFINITION. 8-bit arithmetic and logic (spec/41_alu8.md R120 to R155). -/

namespace Sys2Proof.Machine

open Sys2Proof

/-- Write the flags of an 8-bit sum: Z from the result, N given, H and C from the sum. -/
def State.flagsOf (r : Sum8) (n : Bool) (s : State) : State :=
  s.setFlags (some (decide (r.res = 0))) (some n) (some r.h) (some r.c)

/-- Write a bitwise result into A: Z from the result, N = 0, H given, C = 0 (R137 to R145). -/
def State.bitwise (res : Byte) (h : Bool) (s : State) : State :=
  (s.setA res).setFlags (some (decide (res = 0))) (some false) (some h) (some false)

/-- The operation of the 8-bit ALU groups on A and a byte: ADD (R122), ADC (R125), SUB (R128), SBC (R131),
AND (R137), XOR (R140), OR (R143), CP (R134, A is not written). -/
def State.alu (op : AluOp) (v : Byte) (s : State) : State :=
  match op with
  | .add => let r := add8 s.a v false; (s.setA r.res).flagsOf r false
  | .adc => let r := add8 s.a v s.flagC; (s.setA r.res).flagsOf r false
  | .sub => let r := sub8 s.cfg.subHalfCarry s.a v false; (s.setA r.res).flagsOf r true
  | .sbc => let r := sub8 s.cfg.subHalfCarry s.a v s.flagC; (s.setA r.res).flagsOf r true
  | .and => s.bitwise (s.a &&& v) true
  | .xor => s.bitwise (s.a ^^^ v) false
  | .or  => s.bitwise (s.a ||| v) false
  | .cp  => s.flagsOf (sub8 s.cfg.subHalfCarry s.a v false) true

/-- The register form: one byte, cost 4. -/
def aluReg (op : AluOp) (r : Reg8) (s : State) : State := ((s.advance 1).alu op (s.reg r)).tick 4

/-- The (HL) form: one byte, one data read, cost 8. -/
def aluMem (op : AluOp) (s : State) : State :=
  (((s.advance 1).afterRead s.hl).alu op (s.readByte s.hl)).tick 8

/-- The d8 form: two bytes, cost 8. -/
def aluByte (op : AluOp) (v : Byte) (s : State) : State := ((s.advance 2).alu op v).tick 8

/-- INC r and DEC r: one byte, cost 4 (R148, R150). -/
def stepReg (sum : Byte → Sum8) (n : Bool) (r : Reg8) (s : State) : State :=
  let out := sum (s.reg r)
  (((s.advance 1).setReg r out.res).flagsOf out n).tick 4

/-- INC (HL) and DEC (HL): read, then write, cost 12 (R149, R151). -/
def stepMem (sum : Byte → Sum8) (n : Bool) (s : State) : State :=
  let out := sum (s.readByte s.hl)
  ((((s.advance 1).afterRead s.hl).writeByte s.hl out.res).flagsOf out n).tick 12

/-- CPL (R152). -/
def complementA (s : State) : State :=
  (((s.advance 1).setA (~~~s.a)).setFlags none (some true) (some true) none).tick 4

/-- DAA (R153). -/
def decimalAdjust (s : State) : State :=
  let res := daaResult s.flagN s.flagH s.flagC s.a
  (((s.advance 1).setA res).setFlags (some (decide (res = 0))) none (some false)
    (some (daaCarry s.flagN s.flagC s.a))).tick 4

/-- SCF and CCF: Z is kept, N and H are cleared, C is given (R154, R155). -/
def carryOp (c : Bool) (s : State) : State :=
  ((s.advance 1).setFlags none (some false) (some false) (some c)).tick 4

/-- ADD A,B: opcode 0x80 (R122). -/
def execAddAB (s : State) : Result := .next (aluReg .add .b s)

/-- ADD A,C: opcode 0x81 (R122). -/
def execAddAC (s : State) : Result := .next (aluReg .add .c s)

/-- ADD A,D: opcode 0x82 (R122). -/
def execAddAD (s : State) : Result := .next (aluReg .add .d s)

/-- ADD A,E: opcode 0x83 (R122). -/
def execAddAE (s : State) : Result := .next (aluReg .add .e s)

/-- ADD A,H: opcode 0x84 (R122). -/
def execAddAH (s : State) : Result := .next (aluReg .add .h s)

/-- ADD A,L: opcode 0x85 (R122). -/
def execAddAL (s : State) : Result := .next (aluReg .add .l s)

/-- ADD A,A: opcode 0x87 (R122). -/
def execAddAA (s : State) : Result := .next (aluReg .add .a s)

/-- ADD A,(HL): opcode 0x86 (R123). -/
def execAddAIndHl (s : State) : Result := .next (aluMem .add s)

/-- ADD A,d8: opcode 0xC6 (R124). -/
def execAddAD8 (v : Byte) (s : State) : Result := .next (aluByte .add v s)

/-- ADC A,B: opcode 0x88 (R125). -/
def execAdcAB (s : State) : Result := .next (aluReg .adc .b s)

/-- ADC A,C: opcode 0x89 (R125). -/
def execAdcAC (s : State) : Result := .next (aluReg .adc .c s)

/-- ADC A,D: opcode 0x8A (R125). -/
def execAdcAD (s : State) : Result := .next (aluReg .adc .d s)

/-- ADC A,E: opcode 0x8B (R125). -/
def execAdcAE (s : State) : Result := .next (aluReg .adc .e s)

/-- ADC A,H: opcode 0x8C (R125). -/
def execAdcAH (s : State) : Result := .next (aluReg .adc .h s)

/-- ADC A,L: opcode 0x8D (R125). -/
def execAdcAL (s : State) : Result := .next (aluReg .adc .l s)

/-- ADC A,A: opcode 0x8F (R125). -/
def execAdcAA (s : State) : Result := .next (aluReg .adc .a s)

/-- ADC A,(HL): opcode 0x8E (R126). -/
def execAdcAIndHl (s : State) : Result := .next (aluMem .adc s)

/-- ADC A,d8: opcode 0xCE (R127). -/
def execAdcAD8 (v : Byte) (s : State) : Result := .next (aluByte .adc v s)

/-- SUB B: opcode 0x90 (R128). -/
def execSubB (s : State) : Result := .next (aluReg .sub .b s)

/-- SUB C: opcode 0x91 (R128). -/
def execSubC (s : State) : Result := .next (aluReg .sub .c s)

/-- SUB D: opcode 0x92 (R128). -/
def execSubD (s : State) : Result := .next (aluReg .sub .d s)

/-- SUB E: opcode 0x93 (R128). -/
def execSubE (s : State) : Result := .next (aluReg .sub .e s)

/-- SUB H: opcode 0x94 (R128). -/
def execSubH (s : State) : Result := .next (aluReg .sub .h s)

/-- SUB L: opcode 0x95 (R128). -/
def execSubL (s : State) : Result := .next (aluReg .sub .l s)

/-- SUB A: opcode 0x97 (R128). -/
def execSubA (s : State) : Result := .next (aluReg .sub .a s)

/-- SUB (HL): opcode 0x96 (R129). -/
def execSubIndHl (s : State) : Result := .next (aluMem .sub s)

/-- SUB d8: opcode 0xD6 (R130). -/
def execSubD8 (v : Byte) (s : State) : Result := .next (aluByte .sub v s)

/-- SBC A,B: opcode 0x98 (R131). -/
def execSbcAB (s : State) : Result := .next (aluReg .sbc .b s)

/-- SBC A,C: opcode 0x99 (R131). -/
def execSbcAC (s : State) : Result := .next (aluReg .sbc .c s)

/-- SBC A,D: opcode 0x9A (R131). -/
def execSbcAD (s : State) : Result := .next (aluReg .sbc .d s)

/-- SBC A,E: opcode 0x9B (R131). -/
def execSbcAE (s : State) : Result := .next (aluReg .sbc .e s)

/-- SBC A,H: opcode 0x9C (R131). -/
def execSbcAH (s : State) : Result := .next (aluReg .sbc .h s)

/-- SBC A,L: opcode 0x9D (R131). -/
def execSbcAL (s : State) : Result := .next (aluReg .sbc .l s)

/-- SBC A,A: opcode 0x9F (R131). -/
def execSbcAA (s : State) : Result := .next (aluReg .sbc .a s)

/-- SBC A,(HL): opcode 0x9E (R132). -/
def execSbcAIndHl (s : State) : Result := .next (aluMem .sbc s)

/-- SBC A,d8: opcode 0xDE (R133). -/
def execSbcAD8 (v : Byte) (s : State) : Result := .next (aluByte .sbc v s)

/-- AND B: opcode 0xA0 (R137). -/
def execAndB (s : State) : Result := .next (aluReg .and .b s)

/-- AND C: opcode 0xA1 (R137). -/
def execAndC (s : State) : Result := .next (aluReg .and .c s)

/-- AND D: opcode 0xA2 (R137). -/
def execAndD (s : State) : Result := .next (aluReg .and .d s)

/-- AND E: opcode 0xA3 (R137). -/
def execAndE (s : State) : Result := .next (aluReg .and .e s)

/-- AND H: opcode 0xA4 (R137). -/
def execAndH (s : State) : Result := .next (aluReg .and .h s)

/-- AND L: opcode 0xA5 (R137). -/
def execAndL (s : State) : Result := .next (aluReg .and .l s)

/-- AND A: opcode 0xA7 (R137). -/
def execAndA (s : State) : Result := .next (aluReg .and .a s)

/-- AND (HL): opcode 0xA6 (R138). -/
def execAndIndHl (s : State) : Result := .next (aluMem .and s)

/-- AND d8: opcode 0xE6 (R139). -/
def execAndD8 (v : Byte) (s : State) : Result := .next (aluByte .and v s)

/-- XOR B: opcode 0xA8 (R140). -/
def execXorB (s : State) : Result := .next (aluReg .xor .b s)

/-- XOR C: opcode 0xA9 (R140). -/
def execXorC (s : State) : Result := .next (aluReg .xor .c s)

/-- XOR D: opcode 0xAA (R140). -/
def execXorD (s : State) : Result := .next (aluReg .xor .d s)

/-- XOR E: opcode 0xAB (R140). -/
def execXorE (s : State) : Result := .next (aluReg .xor .e s)

/-- XOR H: opcode 0xAC (R140). -/
def execXorH (s : State) : Result := .next (aluReg .xor .h s)

/-- XOR L: opcode 0xAD (R140). -/
def execXorL (s : State) : Result := .next (aluReg .xor .l s)

/-- XOR A: opcode 0xAF (R140). -/
def execXorA (s : State) : Result := .next (aluReg .xor .a s)

/-- XOR (HL): opcode 0xAE (R141). -/
def execXorIndHl (s : State) : Result := .next (aluMem .xor s)

/-- XOR d8: opcode 0xEE (R142). -/
def execXorD8 (v : Byte) (s : State) : Result := .next (aluByte .xor v s)

/-- OR B: opcode 0xB0 (R143). -/
def execOrB (s : State) : Result := .next (aluReg .or .b s)

/-- OR C: opcode 0xB1 (R143). -/
def execOrC (s : State) : Result := .next (aluReg .or .c s)

/-- OR D: opcode 0xB2 (R143). -/
def execOrD (s : State) : Result := .next (aluReg .or .d s)

/-- OR E: opcode 0xB3 (R143). -/
def execOrE (s : State) : Result := .next (aluReg .or .e s)

/-- OR H: opcode 0xB4 (R143). -/
def execOrH (s : State) : Result := .next (aluReg .or .h s)

/-- OR L: opcode 0xB5 (R143). -/
def execOrL (s : State) : Result := .next (aluReg .or .l s)

/-- OR A: opcode 0xB7 (R143). -/
def execOrA (s : State) : Result := .next (aluReg .or .a s)

/-- OR (HL): opcode 0xB6 (R144). -/
def execOrIndHl (s : State) : Result := .next (aluMem .or s)

/-- OR d8: opcode 0xF6 (R145). -/
def execOrD8 (v : Byte) (s : State) : Result := .next (aluByte .or v s)

/-- CP B: opcode 0xB8 (R134). -/
def execCpB (s : State) : Result := .next (aluReg .cp .b s)

/-- CP C: opcode 0xB9 (R134). -/
def execCpC (s : State) : Result := .next (aluReg .cp .c s)

/-- CP D: opcode 0xBA (R134). -/
def execCpD (s : State) : Result := .next (aluReg .cp .d s)

/-- CP E: opcode 0xBB (R134). -/
def execCpE (s : State) : Result := .next (aluReg .cp .e s)

/-- CP H: opcode 0xBC (R134). -/
def execCpH (s : State) : Result := .next (aluReg .cp .h s)

/-- CP L: opcode 0xBD (R134). -/
def execCpL (s : State) : Result := .next (aluReg .cp .l s)

/-- CP A: opcode 0xBF (R134). -/
def execCpA (s : State) : Result := .next (aluReg .cp .a s)

/-- CP (HL): opcode 0xBE (R135). -/
def execCpIndHl (s : State) : Result := .next (aluMem .cp s)

/-- CP d8: opcode 0xFE (R136). -/
def execCpD8 (v : Byte) (s : State) : Result := .next (aluByte .cp v s)

/-- INC B: opcode 0x04 (R148). -/
def execIncB (s : State) : Result := .next (stepReg inc8 false .b s)

/-- INC C: opcode 0x0C (R148). -/
def execIncC (s : State) : Result := .next (stepReg inc8 false .c s)

/-- INC D: opcode 0x14 (R148). -/
def execIncD (s : State) : Result := .next (stepReg inc8 false .d s)

/-- INC E: opcode 0x1C (R148). -/
def execIncE (s : State) : Result := .next (stepReg inc8 false .e s)

/-- INC H: opcode 0x24 (R148). -/
def execIncH (s : State) : Result := .next (stepReg inc8 false .h s)

/-- INC L: opcode 0x2C (R148). -/
def execIncL (s : State) : Result := .next (stepReg inc8 false .l s)

/-- INC A: opcode 0x3C (R148). -/
def execIncA (s : State) : Result := .next (stepReg inc8 false .a s)

/-- INC (HL): opcode 0x34 (R149). -/
def execIncIndHl (s : State) : Result := .next (stepMem inc8 false s)

/-- DEC B: opcode 0x05 (R150). -/
def execDecB (s : State) : Result := .next (stepReg dec8 true .b s)

/-- DEC C: opcode 0x0D (R150). -/
def execDecC (s : State) : Result := .next (stepReg dec8 true .c s)

/-- DEC D: opcode 0x15 (R150). -/
def execDecD (s : State) : Result := .next (stepReg dec8 true .d s)

/-- DEC E: opcode 0x1D (R150). -/
def execDecE (s : State) : Result := .next (stepReg dec8 true .e s)

/-- DEC H: opcode 0x25 (R150). -/
def execDecH (s : State) : Result := .next (stepReg dec8 true .h s)

/-- DEC L: opcode 0x2D (R150). -/
def execDecL (s : State) : Result := .next (stepReg dec8 true .l s)

/-- DEC A: opcode 0x3D (R150). -/
def execDecA (s : State) : Result := .next (stepReg dec8 true .a s)

/-- DEC (HL): opcode 0x35 (R151). -/
def execDecIndHl (s : State) : Result := .next (stepMem dec8 true s)

/-- CPL: opcode 0x2F (R152). -/
def execCpl (s : State) : Result := .next (complementA s)

/-- DAA: opcode 0x27 (R153). -/
def execDaa (s : State) : Result := .next (decimalAdjust s)

/-- SCF: opcode 0x37 (R154). -/
def execScf (s : State) : Result := .next (carryOp true s)

/-- CCF: opcode 0x3F (R155). -/
def execCcf (s : State) : Result := .next (carryOp (!s.flagC) s)

end Sys2Proof.Machine
end

