-- ==== Sys2Proof/Machine/Control.lean ====
section
/-! DEFINITION. Control transfer and the stack (spec/45_control.md R230 to R246). `s.advance n` is the PC
after every operand byte, the address of the next instruction (R233, R238; spec/90_conflicts.md C12). -/

namespace Sys2Proof.Machine

open Sys2Proof

/-- PC plus a signed displacement (R233). -/
def State.jumpBy (e : Byte) (s : State) : State := s.setPc (s.pc + sext16 e)

/-- Push the PC and go to a target (R238). -/
def State.callTo (t : Word) (s : State) : State := (s.push16 s.pc).setPc t

/-- Pop the PC (R240). -/
def State.returnPop (s : State) : State := s.afterPop.setPc s.popValue

/-- JR r8 (R233). -/
def jumpRel (e : Byte) (s : State) : State := ((s.advance 2).jumpBy e).tick 12

/-- JR cc,r8 (R234). -/
def jumpRelIf (cc : Cond) (e : Byte) (s : State) : State :=
  if s.cond cc then ((s.advance 2).jumpBy e).tick 12 else (s.advance 2).tick 8

/-- JP a16 (R235). -/
def jumpAbs (t : Word) (s : State) : State := ((s.advance 3).setPc t).tick 16

/-- JP cc,a16 (R236). -/
def jumpAbsIf (cc : Cond) (t : Word) (s : State) : State :=
  if s.cond cc then ((s.advance 3).setPc t).tick 16 else (s.advance 3).tick 12

/-- JP HL (R237). -/
def jumpHl (s : State) : State := ((s.advance 1).setPc s.hl).tick 4

/-- CALL a16 (R238). -/
def callAbs (t : Word) (s : State) : State := ((s.advance 3).callTo t).tick 24

/-- CALL cc,a16 (R239). -/
def callAbsIf (cc : Cond) (t : Word) (s : State) : State :=
  if s.cond cc then ((s.advance 3).callTo t).tick 24 else (s.advance 3).tick 12

/-- RET and RETI (R240, R242). -/
def returnAlways (s : State) : State := ((s.advance 1).returnPop).tick 16

/-- RET cc: the condition is tested before the stack is read (R241). -/
def returnIf (cc : Cond) (s : State) : State :=
  if s.cond cc then ((s.advance 1).returnPop).tick 20 else (s.advance 1).tick 8

/-- RST y (R243). -/
def restart (y : BitVec 3) (s : State) : State := ((s.advance 1).callTo (rstTarget y)).tick 16

/-- PUSH rr (R244). -/
def pushPair (p : StackPair) (s : State) : State := ((s.advance 1).push16 (s.stackPair p)).tick 16

/-- POP rr (R245, R246). -/
def popPair (p : StackPair) (s : State) : State :=
  ((s.advance 1).afterPop.setStackPair p s.popValue).tick 12

/-- JR r8: opcode 0x18 (R233). -/
def execJrR8 (e : Byte) (s : State) : Result := .next (jumpRel e s)

/-- JR NZ,r8: opcode 0x20 (R234). -/
def execJrNzR8 (e : Byte) (s : State) : Result := .next (jumpRelIf .nz e s)

/-- JR Z,r8: opcode 0x28 (R234). -/
def execJrZR8 (e : Byte) (s : State) : Result := .next (jumpRelIf .z e s)

/-- JR NC,r8: opcode 0x30 (R234). -/
def execJrNcR8 (e : Byte) (s : State) : Result := .next (jumpRelIf .nc e s)

/-- JR C,r8: opcode 0x38 (R234). -/
def execJrCR8 (e : Byte) (s : State) : Result := .next (jumpRelIf .c e s)

/-- JP a16: opcode 0xC3 (R235). -/
def execJpA16 (t : Word) (s : State) : Result := .next (jumpAbs t s)

/-- JP NZ,a16: opcode 0xC2 (R236). -/
def execJpNzA16 (t : Word) (s : State) : Result := .next (jumpAbsIf .nz t s)

/-- JP Z,a16: opcode 0xCA (R236). -/
def execJpZA16 (t : Word) (s : State) : Result := .next (jumpAbsIf .z t s)

/-- JP NC,a16: opcode 0xD2 (R236). -/
def execJpNcA16 (t : Word) (s : State) : Result := .next (jumpAbsIf .nc t s)

/-- JP C,a16: opcode 0xDA (R236). -/
def execJpCA16 (t : Word) (s : State) : Result := .next (jumpAbsIf .c t s)

/-- JP HL: opcode 0xE9 (R237). -/
def execJpHl (s : State) : Result := .next (jumpHl s)

/-- CALL a16: opcode 0xCD (R238). -/
def execCallA16 (t : Word) (s : State) : Result := .next (callAbs t s)

/-- CALL NZ,a16: opcode 0xC4 (R239). -/
def execCallNzA16 (t : Word) (s : State) : Result := .next (callAbsIf .nz t s)

/-- CALL Z,a16: opcode 0xCC (R239). -/
def execCallZA16 (t : Word) (s : State) : Result := .next (callAbsIf .z t s)

/-- CALL NC,a16: opcode 0xD4 (R239). -/
def execCallNcA16 (t : Word) (s : State) : Result := .next (callAbsIf .nc t s)

/-- CALL C,a16: opcode 0xDC (R239). -/
def execCallCA16 (t : Word) (s : State) : Result := .next (callAbsIf .c t s)

/-- RET: opcode 0xC9 (R240). -/
def execRet (s : State) : Result := .next (returnAlways s)

/-- RET NZ: opcode 0xC0 (R241). -/
def execRetNz (s : State) : Result := .next (returnIf .nz s)

/-- RET Z: opcode 0xC8 (R241). -/
def execRetZ (s : State) : Result := .next (returnIf .z s)

/-- RET NC: opcode 0xD0 (R241). -/
def execRetNc (s : State) : Result := .next (returnIf .nc s)

/-- RET C: opcode 0xD8 (R241). -/
def execRetC (s : State) : Result := .next (returnIf .c s)

/-- RETI: opcode 0xD9 (R242). -/
def execReti (s : State) : Result := .next (returnAlways s)

/-- RST 00H: opcode 0xC7 (R243). -/
def execRst00 (s : State) : Result := .next (restart 0 s)

/-- RST 08H: opcode 0xCF (R243). -/
def execRst08 (s : State) : Result := .next (restart 1 s)

/-- RST 10H: opcode 0xD7 (R243). -/
def execRst10 (s : State) : Result := .next (restart 2 s)

/-- RST 18H: opcode 0xDF (R243). -/
def execRst18 (s : State) : Result := .next (restart 3 s)

/-- RST 20H: opcode 0xE7 (R243). -/
def execRst20 (s : State) : Result := .next (restart 4 s)

/-- RST 28H: opcode 0xEF (R243). -/
def execRst28 (s : State) : Result := .next (restart 5 s)

/-- RST 30H: opcode 0xF7 (R243). -/
def execRst30 (s : State) : Result := .next (restart 6 s)

/-- RST 38H: opcode 0xFF (R243). -/
def execRst38 (s : State) : Result := .next (restart 7 s)

/-- PUSH BC: opcode 0xC5 (R244). -/
def execPushBc (s : State) : Result := .next (pushPair .bc s)

/-- PUSH DE: opcode 0xD5 (R244). -/
def execPushDe (s : State) : Result := .next (pushPair .de s)

/-- PUSH HL: opcode 0xE5 (R244). -/
def execPushHl (s : State) : Result := .next (pushPair .hl s)

/-- PUSH AF: opcode 0xF5 (R244). -/
def execPushAf (s : State) : Result := .next (pushPair .af s)

/-- POP BC: opcode 0xC1 (R245). -/
def execPopBc (s : State) : Result := .next (popPair .bc s)

/-- POP DE: opcode 0xD1 (R245). -/
def execPopDe (s : State) : Result := .next (popPair .de s)

/-- POP HL: opcode 0xE1 (R245). -/
def execPopHl (s : State) : Result := .next (popPair .hl s)

/-- POP AF: opcode 0xF1 (R246). -/
def execPopAf (s : State) : Result := .next (popPair .af s)

end Sys2Proof.Machine
end

