-- ==== Sys2Proof/Machine/Load.lean ====
section
/-! DEFINITION. Loads and stores (spec/44_load.md R190 to R211). None writes a flag. An operand byte or
word has been fetched before the meaning runs, so a data access comes after every fetch (R69). -/

namespace Sys2Proof.Machine

open Sys2Proof

/-- LD r,r' (R190). -/
def loadReg (dst r : Reg8) (s : State) : State := ((s.advance 1).setReg dst (s.reg r)).tick 4

/-- LD r,d8 (R191). -/
def loadImm (dst : Reg8) (v : Byte) (s : State) : State := ((s.advance 2).setReg dst v).tick 8

/-- A load of a register from an address: `n` bytes of instruction, cost `k`. The address is the value
before the register is written (R192). -/
def loadFrom (n k : Nat) (dst : Reg8) (addr : Word) (s : State) : State :=
  (((s.advance n).afterRead addr).setReg dst (s.readByte addr)).tick k

/-- A store of a byte to an address: `n` bytes of instruction, cost `k`. -/
def storeTo (n k : Nat) (addr : Word) (v : Byte) (s : State) : State :=
  ((s.advance n).writeByte addr v).tick k

/-- LD (HL±),A: the store, then HL moves by `by_` (R199, R200). -/
def storeHlMove (by_ : Word) (s : State) : State := (storeTo 1 8 s.hl s.a s).setHl (s.hl + by_)

/-- LD A,(HL±): the load, then HL moves by `by_` (R201, R202). -/
def loadHlMove (by_ : Word) (s : State) : State := (loadFrom 1 8 .a s.hl s).setHl (s.hl + by_)

/-- LD BC,A, opcode 0x02: B is cleared, no memory access (R195). -/
def widenAIntoBc (s : State) : State := ((s.advance 1).setBc (zext16 s.a)).tick 8

/-- LD rr,d16 (R203). -/
def loadPair (p : Pair) (w : Word) (s : State) : State := ((s.advance 3).setPair p w).tick 12

/-- LD (a16),SP (R204). -/
def storeSp (t : Word) (s : State) : State := ((s.advance 3).writeWord t s.sp).tick 20

/-- LD SP,HL (R211). -/
def copyHlToSp (s : State) : State := ((s.advance 1).setSp s.hl).tick 8

/-- LD B,B: opcode 0x40 (R190). -/
def execLdBB (s : State) : Result := .next (loadReg .b .b s)

/-- LD B,C: opcode 0x41 (R190). -/
def execLdBC (s : State) : Result := .next (loadReg .b .c s)

/-- LD B,D: opcode 0x42 (R190). -/
def execLdBD (s : State) : Result := .next (loadReg .b .d s)

/-- LD B,E: opcode 0x43 (R190). -/
def execLdBE (s : State) : Result := .next (loadReg .b .e s)

/-- LD B,H: opcode 0x44 (R190). -/
def execLdBH (s : State) : Result := .next (loadReg .b .h s)

/-- LD B,L: opcode 0x45 (R190). -/
def execLdBL (s : State) : Result := .next (loadReg .b .l s)

/-- LD B,A: opcode 0x47 (R190). -/
def execLdBA (s : State) : Result := .next (loadReg .b .a s)

/-- LD C,B: opcode 0x48 (R190). -/
def execLdCB (s : State) : Result := .next (loadReg .c .b s)

/-- LD C,C: opcode 0x49 (R190). -/
def execLdCC (s : State) : Result := .next (loadReg .c .c s)

/-- LD C,D: opcode 0x4A (R190). -/
def execLdCD (s : State) : Result := .next (loadReg .c .d s)

/-- LD C,E: opcode 0x4B (R190). -/
def execLdCE (s : State) : Result := .next (loadReg .c .e s)

/-- LD C,H: opcode 0x4C (R190). -/
def execLdCH (s : State) : Result := .next (loadReg .c .h s)

/-- LD C,L: opcode 0x4D (R190). -/
def execLdCL (s : State) : Result := .next (loadReg .c .l s)

/-- LD C,A: opcode 0x4F (R190). -/
def execLdCA (s : State) : Result := .next (loadReg .c .a s)

/-- LD D,B: opcode 0x50 (R190). -/
def execLdDB (s : State) : Result := .next (loadReg .d .b s)

/-- LD D,C: opcode 0x51 (R190). -/
def execLdDC (s : State) : Result := .next (loadReg .d .c s)

/-- LD D,D: opcode 0x52 (R190). -/
def execLdDD (s : State) : Result := .next (loadReg .d .d s)

/-- LD D,E: opcode 0x53 (R190). -/
def execLdDE (s : State) : Result := .next (loadReg .d .e s)

/-- LD D,H: opcode 0x54 (R190). -/
def execLdDH (s : State) : Result := .next (loadReg .d .h s)

/-- LD D,L: opcode 0x55 (R190). -/
def execLdDL (s : State) : Result := .next (loadReg .d .l s)

/-- LD D,A: opcode 0x57 (R190). -/
def execLdDA (s : State) : Result := .next (loadReg .d .a s)

/-- LD E,B: opcode 0x58 (R190). -/
def execLdEB (s : State) : Result := .next (loadReg .e .b s)

/-- LD E,C: opcode 0x59 (R190). -/
def execLdEC (s : State) : Result := .next (loadReg .e .c s)

/-- LD E,D: opcode 0x5A (R190). -/
def execLdED (s : State) : Result := .next (loadReg .e .d s)

/-- LD E,E: opcode 0x5B (R190). -/
def execLdEE (s : State) : Result := .next (loadReg .e .e s)

/-- LD E,H: opcode 0x5C (R190). -/
def execLdEH (s : State) : Result := .next (loadReg .e .h s)

/-- LD E,L: opcode 0x5D (R190). -/
def execLdEL (s : State) : Result := .next (loadReg .e .l s)

/-- LD E,A: opcode 0x5F (R190). -/
def execLdEA (s : State) : Result := .next (loadReg .e .a s)

/-- LD H,B: opcode 0x60 (R190). -/
def execLdHB (s : State) : Result := .next (loadReg .h .b s)

/-- LD H,C: opcode 0x61 (R190). -/
def execLdHC (s : State) : Result := .next (loadReg .h .c s)

/-- LD H,D: opcode 0x62 (R190). -/
def execLdHD (s : State) : Result := .next (loadReg .h .d s)

/-- LD H,E: opcode 0x63 (R190). -/
def execLdHE (s : State) : Result := .next (loadReg .h .e s)

/-- LD H,H: opcode 0x64 (R190). -/
def execLdHH (s : State) : Result := .next (loadReg .h .h s)

/-- LD H,L: opcode 0x65 (R190). -/
def execLdHL (s : State) : Result := .next (loadReg .h .l s)

/-- LD H,A: opcode 0x67 (R190). -/
def execLdHA (s : State) : Result := .next (loadReg .h .a s)

/-- LD L,B: opcode 0x68 (R190). -/
def execLdLB (s : State) : Result := .next (loadReg .l .b s)

/-- LD L,C: opcode 0x69 (R190). -/
def execLdLC (s : State) : Result := .next (loadReg .l .c s)

/-- LD L,D: opcode 0x6A (R190). -/
def execLdLD (s : State) : Result := .next (loadReg .l .d s)

/-- LD L,E: opcode 0x6B (R190). -/
def execLdLE (s : State) : Result := .next (loadReg .l .e s)

/-- LD L,H: opcode 0x6C (R190). -/
def execLdLH (s : State) : Result := .next (loadReg .l .h s)

/-- LD L,L: opcode 0x6D (R190). -/
def execLdLL (s : State) : Result := .next (loadReg .l .l s)

/-- LD L,A: opcode 0x6F (R190). -/
def execLdLA (s : State) : Result := .next (loadReg .l .a s)

/-- LD A,B: opcode 0x78 (R190). -/
def execLdAB (s : State) : Result := .next (loadReg .a .b s)

/-- LD A,C: opcode 0x79 (R190). -/
def execLdAC (s : State) : Result := .next (loadReg .a .c s)

/-- LD A,D: opcode 0x7A (R190). -/
def execLdAD (s : State) : Result := .next (loadReg .a .d s)

/-- LD A,E: opcode 0x7B (R190). -/
def execLdAE (s : State) : Result := .next (loadReg .a .e s)

/-- LD A,H: opcode 0x7C (R190). -/
def execLdAH (s : State) : Result := .next (loadReg .a .h s)

/-- LD A,L: opcode 0x7D (R190). -/
def execLdAL (s : State) : Result := .next (loadReg .a .l s)

/-- LD A,A: opcode 0x7F (R190). -/
def execLdAA (s : State) : Result := .next (loadReg .a .a s)

/-- LD B,d8: opcode 0x06 (R191). -/
def execLdBD8 (v : Byte) (s : State) : Result := .next (loadImm .b v s)

/-- LD C,d8: opcode 0x0E (R191). -/
def execLdCD8 (v : Byte) (s : State) : Result := .next (loadImm .c v s)

/-- LD D,d8: opcode 0x16 (R191). -/
def execLdDD8 (v : Byte) (s : State) : Result := .next (loadImm .d v s)

/-- LD E,d8: opcode 0x1E (R191). -/
def execLdED8 (v : Byte) (s : State) : Result := .next (loadImm .e v s)

/-- LD H,d8: opcode 0x26 (R191). -/
def execLdHD8 (v : Byte) (s : State) : Result := .next (loadImm .h v s)

/-- LD L,d8: opcode 0x2E (R191). -/
def execLdLD8 (v : Byte) (s : State) : Result := .next (loadImm .l v s)

/-- LD A,d8: opcode 0x3E (R191). -/
def execLdAD8 (v : Byte) (s : State) : Result := .next (loadImm .a v s)

/-- LD B,(HL): opcode 0x46 (R192). -/
def execLdBIndHl (s : State) : Result := .next (loadFrom 1 8 .b s.hl s)

/-- LD C,(HL): opcode 0x4E (R192). -/
def execLdCIndHl (s : State) : Result := .next (loadFrom 1 8 .c s.hl s)

/-- LD D,(HL): opcode 0x56 (R192). -/
def execLdDIndHl (s : State) : Result := .next (loadFrom 1 8 .d s.hl s)

/-- LD E,(HL): opcode 0x5E (R192). -/
def execLdEIndHl (s : State) : Result := .next (loadFrom 1 8 .e s.hl s)

/-- LD H,(HL): opcode 0x66 (R192). -/
def execLdHIndHl (s : State) : Result := .next (loadFrom 1 8 .h s.hl s)

/-- LD L,(HL): opcode 0x6E (R192). -/
def execLdLIndHl (s : State) : Result := .next (loadFrom 1 8 .l s.hl s)

/-- LD A,(HL): opcode 0x7E (R192). -/
def execLdAIndHl (s : State) : Result := .next (loadFrom 1 8 .a s.hl s)

/-- LD (HL),B: opcode 0x70 (R193). -/
def execLdIndHlB (s : State) : Result := .next (storeTo 1 8 s.hl (s.reg .b) s)

/-- LD (HL),C: opcode 0x71 (R193). -/
def execLdIndHlC (s : State) : Result := .next (storeTo 1 8 s.hl (s.reg .c) s)

/-- LD (HL),D: opcode 0x72 (R193). -/
def execLdIndHlD (s : State) : Result := .next (storeTo 1 8 s.hl (s.reg .d) s)

/-- LD (HL),E: opcode 0x73 (R193). -/
def execLdIndHlE (s : State) : Result := .next (storeTo 1 8 s.hl (s.reg .e) s)

/-- LD (HL),H: opcode 0x74 (R193). -/
def execLdIndHlH (s : State) : Result := .next (storeTo 1 8 s.hl (s.reg .h) s)

/-- LD (HL),L: opcode 0x75 (R193). -/
def execLdIndHlL (s : State) : Result := .next (storeTo 1 8 s.hl (s.reg .l) s)

/-- LD (HL),A: opcode 0x77 (R193). -/
def execLdIndHlA (s : State) : Result := .next (storeTo 1 8 s.hl (s.reg .a) s)

/-- LD (HL),d8: opcode 0x36 (R194). -/
def execLdIndHlD8 (v : Byte) (s : State) : Result := .next (storeTo 2 12 s.hl v s)

/-- LD BC,A: opcode 0x02 (R195). -/
def execLdBcA (s : State) : Result := .next (widenAIntoBc s)

/-- LD (DE),A: opcode 0x12 (R196). -/
def execLdIndDeA (s : State) : Result := .next (storeTo 1 8 s.de s.a s)

/-- LD A,(BC): opcode 0x0A (R197). -/
def execLdAIndBc (s : State) : Result := .next (loadFrom 1 8 .a s.bc s)

/-- LD A,(DE): opcode 0x1A (R198). -/
def execLdAIndDe (s : State) : Result := .next (loadFrom 1 8 .a s.de s)

/-- LD (HL+),A: opcode 0x22 (R199). -/
def execLdIndHlIncA (s : State) : Result := .next (storeHlMove 1 s)

/-- LD (HL-),A: opcode 0x32 (R200). -/
def execLdIndHlDecA (s : State) : Result := .next (storeHlMove (-1) s)

/-- LD A,(HL+): opcode 0x2A (R201). -/
def execLdAIndHlInc (s : State) : Result := .next (loadHlMove 1 s)

/-- LD A,(HL-): opcode 0x3A (R202). -/
def execLdAIndHlDec (s : State) : Result := .next (loadHlMove (-1) s)

/-- LD BC,d16: opcode 0x01 (R203). -/
def execLdBcD16 (w : Word) (s : State) : Result := .next (loadPair .bc w s)

/-- LD DE,d16: opcode 0x11 (R203). -/
def execLdDeD16 (w : Word) (s : State) : Result := .next (loadPair .de w s)

/-- LD HL,d16: opcode 0x21 (R203). -/
def execLdHlD16 (w : Word) (s : State) : Result := .next (loadPair .hl w s)

/-- LD SP,d16: opcode 0x31 (R203). -/
def execLdSpD16 (w : Word) (s : State) : Result := .next (loadPair .sp w s)

/-- LD (a16),SP: opcode 0x08 (R204). -/
def execLdIndA16Sp (t : Word) (s : State) : Result := .next (storeSp t s)

/-- LD SP,HL: opcode 0xF9 (R211). -/
def execLdSpHl (s : State) : Result := .next (copyHlToSp s)

/-- LDH (a8),A: opcode 0xE0 (R205). -/
def execLdhIndA8A (o : Byte) (s : State) : Result := .next (storeTo 2 12 (highPage o) s.a s)

/-- LDH A,(a8): opcode 0xF0 (R206). -/
def execLdhAIndA8 (o : Byte) (s : State) : Result := .next (loadFrom 2 12 .a (highPage o) s)

/-- LD (C),A: opcode 0xE2 (R207). -/
def execLdIndCA (s : State) : Result := .next (storeTo 1 8 (highPage s.c) s.a s)

/-- LD A,(C): opcode 0xF2 (R208). -/
def execLdAIndC (s : State) : Result := .next (loadFrom 1 8 .a (highPage s.c) s)

/-- LD (a16),A: opcode 0xEA (R209). -/
def execLdIndA16A (t : Word) (s : State) : Result := .next (storeTo 3 16 t s.a s)

/-- LD A,(a16): opcode 0xFA (R210). -/
def execLdAIndA16 (t : Word) (s : State) : Result := .next (loadFrom 3 16 .a t s)

end Sys2Proof.Machine
end

