-- ==== Sys2Proof/Machine/Misc.lean ====
section
/-! DEFINITION. Control of the processor and the fatal opcodes (spec/46_misc.md R260 to R265,
spec/60_exceptions.md R300 to R303). -/

namespace Sys2Proof.Machine

open Sys2Proof

/-- NOP, DI and EI: the prologue and the cost, nothing else (R260, R263, R264). -/
def idle (s : State) : State := (s.advance 1).tick 4

/-- HALT and STOP: past the instruction, the cost, and the mode (R261, R262). -/
def stopIn (n : Nat) (m : Mode) (s : State) : State := ((s.advance n).haltFsm m).tick 4

/-- NOP: opcode 0x00 (R260). -/
def execNop (s : State) : Result := .next (idle s)

/-- DI: opcode 0xF3 (R263). -/
def execDi (s : State) : Result := .next (idle s)

/-- EI: opcode 0xFB (R264). -/
def execEi (s : State) : Result := .next (idle s)

/-- HALT: opcode 0x76 (R261). -/
def execHalt (s : State) : Result := .next (stopIn 1 .halted s)

/-- STOP: opcode 0x10 (R262). The second byte is ignored. -/
def execStop (_pad : Byte) (s : State) : Result := .next (stopIn 2 .stopped s)

/-- ILLEGAL_D3: opcode 0xD3 (R301). -/
def execIllegalD3 (s : State) : Result := .next (s.raise .illegalOpcode 0xD3)

/-- ILLEGAL_DB: opcode 0xDB (R301). -/
def execIllegalDB (s : State) : Result := .next (s.raise .illegalOpcode 0xDB)

/-- ILLEGAL_DD: opcode 0xDD (R301). -/
def execIllegalDD (s : State) : Result := .next (s.raise .illegalOpcode 0xDD)

/-- ILLEGAL_E3: opcode 0xE3 (R301). -/
def execIllegalE3 (s : State) : Result := .next (s.raise .illegalOpcode 0xE3)

/-- ILLEGAL_E4: opcode 0xE4 (R301). -/
def execIllegalE4 (s : State) : Result := .next (s.raise .illegalOpcode 0xE4)

/-- ILLEGAL_EB: opcode 0xEB (R301). -/
def execIllegalEB (s : State) : Result := .next (s.raise .illegalOpcode 0xEB)

/-- ILLEGAL_EC: opcode 0xEC (R301). -/
def execIllegalEC (s : State) : Result := .next (s.raise .illegalOpcode 0xEC)

/-- ILLEGAL_ED: opcode 0xED (R301). -/
def execIllegalED (s : State) : Result := .next (s.raise .illegalOpcode 0xED)

/-- ILLEGAL_F4: opcode 0xF4 (R301). -/
def execIllegalF4 (s : State) : Result := .next (s.raise .illegalOpcode 0xF4)

/-- ILLEGAL_FC: opcode 0xFC (R301). -/
def execIllegalFC (s : State) : Result := .next (s.raise .illegalOpcode 0xFC)

/-- ILLEGAL_FD: opcode 0xFD (R301). -/
def execIllegalFD (s : State) : Result := .next (s.raise .illegalOpcode 0xFD)

/-- PREFIX CB: opcode 0xCB (R265). -/
def execPrefixCb (s : State) : Result := .next (s.raise .notImplemented 0xCB)

end Sys2Proof.Machine
end

