-- ==== Sys2Proof/Machine/Rotate.lean ====
section
/-! DEFINITION. The accumulator rotates (spec/43_rotate.md R180 to R183). -/

namespace Sys2Proof.Machine

open Sys2Proof

/-- A bit as a byte. -/
def bit8 (b : Bool) : Byte := if b then 1 else 0

/-- A rotate by one: the rotated A, and the bit shifted out into C; Z is cleared, not computed. -/
def rotateA (res : Byte) (out : Bool) (s : State) : State :=
  (((s.advance 1).setA res).setFlags (some false) (some false) (some false) (some out)).tick 4

/-- A shifted left with a bit coming in at position 0 (R180, R182). -/
def shiftLeftIn (v : Byte) (b : Bool) : Byte := (v <<< 1) ||| bit8 b

/-- A shifted right with a bit coming in at position 7 (R181, R183). -/
def shiftRightIn (v : Byte) (b : Bool) : Byte := (v >>> 1) ||| (bit8 b <<< 7)

/-- RLCA: opcode 0x07 (R180). -/
def execRlca (s : State) : Result := .next (rotateA (shiftLeftIn s.a (s.a.getLsbD 7)) (s.a.getLsbD 7) s)

/-- RRCA: opcode 0x0F (R181). -/
def execRrca (s : State) : Result := .next (rotateA (shiftRightIn s.a (s.a.getLsbD 0)) (s.a.getLsbD 0) s)

/-- RLA: opcode 0x17 (R182). -/
def execRla (s : State) : Result := .next (rotateA (shiftLeftIn s.a s.flagC) (s.a.getLsbD 7) s)

/-- RRA: opcode 0x1F (R183). -/
def execRra (s : State) : Result := .next (rotateA (shiftRightIn s.a s.flagC) (s.a.getLsbD 0) s)

end Sys2Proof.Machine
end

