-- ==== Sys2Proof/Machine/Fetch.lean ====
section
/-! DEFINITION. Fetching an instruction (spec/30_encoding.md R87, R88, R95): the opcode, then its operand
bytes at ascending addresses, all before the instruction's data accesses (spec/20_memory.md R69). PC moves
when the instruction executes; a faulting opcode leaves it (R96). -/

namespace Sys2Proof.Machine

open Sys2Proof

/-- The opcode of a step: the byte at PC under FETCH, the `opcode_in` port under HARNESS (R95). -/
def fetchOpcode (s : State) : Byte :=
  match s.cfg.opcodeSource with
  | .fetch   => s.readByte s.pc
  | .harness => s.opcodeIn

/-- The state after the opcode fetch: one read request under FETCH, none under HARNESS (R95). -/
def afterOpcode (s : State) : State :=
  match s.cfg.opcodeSource with
  | .fetch   => s.afterRead s.pc
  | .harness => s

/-- The instruction a form and the operand bytes behind the opcode make; an absent byte reads as 0x00
(R87, R88). -/
def fetchOperands (fm : Form) (s : State) : Instr :=
  match fm with
  | .op i     => i
  | .imm8 mk  => mk (s.readByte (s.pc + 1))
  | .imm16 mk => mk (s.readWord (s.pc + 1))

/-- The state after the operand fetch: one read request an operand byte (R87, R88). -/
def afterOperands (fm : Form) (s : State) : State :=
  match fm with
  | .op _    => s
  | .imm8 _  => s.afterRead (s.pc + 1)
  | .imm16 _ => s.afterReadWord (s.pc + 1)

/-- The instruction the next step executes. -/
def fetchInstr (s : State) : Instr := fetchOperands (form (fetchOpcode s)) (afterOpcode s)

/-- The state after its fetch: only the bus and a device behind an instruction byte have changed. -/
def afterFetch (s : State) : State := afterOperands (form (fetchOpcode s)) (afterOpcode s)

/-- One step of the dispatch FSM (R96). When the mode is not Running it has no effect (R305). -/
def dispatchStep (run : Instr → State → Result) (s : State) : Result :=
  if s.canStep then run (fetchInstr s.beginStep) (afterFetch s.beginStep) else .next s

/-- Load an instruction from outside the machine, so that the very next step runs it: its bytes at PC, the
mode Running, and under HARNESS its opcode on the `opcode_in` port (log 13). -/
def State.loadBytes (bytes : List Byte) (s : State) : State :=
  { s with
    mem := s.mem.placeAll s.pc bytes
    mode := .running
    opcodeIn := match s.cfg.opcodeSource with
      | .fetch   => s.opcodeIn
      | .harness => bytes.headD s.opcodeIn }

end Sys2Proof.Machine
end

