-- ==== Sys2Proof/Machine/Step.lean ====
section
/-! DEFINITION. One step (spec/30_encoding.md R96, spec/10_state.md R40). -/

namespace Sys2Proof.Machine

open Sys2Proof

/-- One request on the `step` port: fetch one instruction and execute it when the mode is Running, else
nothing (R96, R305). -/
def step (s : State) : Host.Outcome State Fault Refusal := dispatchStep exec s

/-- `s` with a table word stored where the next step fetches it, and nothing else changed that the fetch
does not need (log 13). -/
def State.withFetchWord (s : State) (nbits w : Nat) : State := s.loadBytes (tableBytes nbits w)

end Sys2Proof.Machine
end

