-- ==== Sys2Proof/Safety.lean ====
section
/-! DEFINITION. What counts as a safe run, and the invariant of the machine. -/

namespace Sys2Proof.Machine

open Sys2Proof

/-- The mode is not Faulted. A fault is a fault outcome and never normal termination
(spec/60_exceptions.md R303). -/
def State.safe (s : State) : Bool :=
  match s.mode with
  | .faulted _ _ => false
  | .running | .halted | .stopped => true

/-- The 11 opcodes with no defined behaviour (spec/30_encoding.md R91). -/
def illegalOpcodes : List Byte := [0xD3, 0xDB, 0xDD, 0xE3, 0xE4, 0xEB, 0xEC, 0xED, 0xF4, 0xFC, 0xFD]

/-- A recorded fault names an opcode that raises its cause (spec/60_exceptions.md R300). -/
def Mode.consistent : Mode → Bool
  | .running | .halted | .stopped => true
  | .faulted .illegalOpcode op    => illegalOpcodes.contains op
  | .faulted .notImplemented op   => decide (op = 0xCB)

/-- The invariant: F's low nibble is 0 (spec/10_state.md R24), `cycles` is a multiple of 4 (R32), a
recorded fault is consistent (R300), and memory is in canonical form. -/
def State.inv (s : State) : Bool :=
  decide (s.f &&& 0x0F = 0) && decide (s.cycles % 4 = 0) && s.mode.consistent && s.mem.wf

end Sys2Proof.Machine
end

