-- ==== Sys2Proof/Certificates/Slice0/Obligations.lean ====
section
/-! DEFINITION. The statements for the provers. `Sys2Proof.Claims` holds what the statements are written
with: results as the rules of spec/ give them, in integer arithmetic, and the tables of destinations,
flags, stored addresses and costs that the frames range over. -/

namespace Sys2Proof.Claims

open Sys2Proof Sys2Proof.Machine

/-- Past `n` bytes of instruction and `k` cycles on, nothing else changed. -/
def done (n k : Nat) (s : State) : State :=
  { s with pc := s.pc + BitVec.ofNat 16 n, cycles := s.cycles + k }

/-- A and F after adding a byte and a carry-in (R120): the exact sum, narrowed. -/
def added (v : Byte) (cin : Nat) (s : State) : State :=
  let sum := s.a.toNat + v.toNat + cin
  { s with
    a := BitVec.ofNat 8 sum
    f := packFlags (decide (sum % 256 = 0)) false (decide (0xF < s.a.toNat % 16 + v.toNat % 16 + cin))
      (decide (0xFF < sum)) }

/-- F after subtracting a byte and a borrow-in (R121): Z, H and C from the exact difference, H by the
parameter SUB_HALF_CARRY. -/
def borrowFlags (v : Byte) (cin : Nat) (s : State) : Byte :=
  let diff : Int := s.a.toNat - v.toNat - cin
  let half := match s.cfg.subHalfCarry with
    | .low  => decide (((s.a.toNat % 16 : Nat) : Int) - (v.toNat % 16 : Nat) - cin < 0)
    | .high => decide (s.a.toNat / 16 < v.toNat / 16)
  packFlags (decide (diff % 256 = 0)) true half (decide (diff < 0))

/-- A and F after subtracting a byte and a borrow-in (R121). -/
def subtracted (v : Byte) (cin : Nat) (s : State) : State :=
  { s with a := BitVec.ofInt 8 (s.a.toNat - v.toNat - cin), f := borrowFlags v cin s }

/-- A and F after a bitwise operation with result `res` (R137 to R145). -/
def bitwise (res : Byte) (h : Bool) (s : State) : State :=
  { s with a := res, f := packFlags (decide (res.toNat = 0)) false h false }

/-- F after INC of a byte (R146): H exactly when the low nibble was 0xF, C exactly when the byte was 0xFF. -/
def incFlags (v : Byte) : Byte :=
  packFlags (decide (v.toNat = 0xFF)) false (decide (v.toNat % 16 = 0xF)) (decide (v.toNat = 0xFF))

/-- F after DEC of a byte (R147): H exactly when the low nibble was 0, C exactly when the byte was 0. -/
def decFlags (v : Byte) : Byte :=
  packFlags (decide (v.toNat = 1)) true (decide (v.toNat % 16 = 0)) (decide (v.toNat = 0))

/-- DAA's accumulator before it is narrowed (R153). -/
def daaSum (n h c : Bool) (a : Byte) : Int :=
  if n then (a.toNat : Int) - (if c then 0x60 else 0) - (if h then 0x06 else 0)
  else
    let a1 : Nat := a.toNat + (if c || decide (0x99 < a.toNat) then 0x60 else 0)
    (a1 : Int) + (if h || decide (0x9 < a1 % 16) then 0x06 else 0)

/-- F with the flags of `sp_plus(e)` (R173). -/
def spFlags (sp : Word) (e : Byte) : Byte :=
  packFlags false false (decide (0xF < sp.toNat % 16 + e.toNat % 16)) (decide (0xFF < sp.toNat % 256 + e.toNat))

/-- A's bit `k` is the bit a rotate shifts out; Z, N and H are cleared (R180 to R183). -/
def rotateFlags (s : State) (k : Nat) : Byte := packFlags false false false (s.a.getLsbD k)

/-- A word plus a signed displacement, wrapped (R233). -/
def displaced (base : Nat) (e : Byte) : Word := BitVec.ofInt 16 (base + e.toInt)

/-- A byte read in canonical decimal: both digits at most 9. -/
def isBcd (v : Byte) : Bool := decide (v.toNat % 16 ≤ 9) && decide (v.toNat / 16 ≤ 9)

/-- The number two decimal digits stand for. -/
def bcdValue (v : Byte) : Nat := v.toNat / 16 * 10 + v.toNat % 16

/-- The state an outcome holds, or the given one where it holds none. -/
def stateOr (s : State) : Host.Outcome State Fault Refusal → State
  | .next t => t
  | .fault _ => s
  | .refused _ => s

/-- The three bytes from PC, as a step that fetched all three would read them (R87, R88, R95). -/
def bytesAtPc (s : State) : List Byte :=
  let s1 := s.afterRead s.pc
  let s2 := s1.afterRead (s.pc + 1)
  [s.readByte s.pc, s1.readByte (s.pc + 1), s2.readByte (s.pc + 2)]

/-- The opcode port and the two bytes behind PC (R95, HARNESS). -/
def bytesFromPort (s : State) : List Byte :=
  let s1 := s.afterRead (s.pc + 1)
  [s.opcodeIn, s.readByte (s.pc + 1), s1.readByte (s.pc + 2)]

/-- `n` read requests at ascending addresses. -/
def readsFrom (a : Word) : Nat → State → State
  | 0, s => s
  | n + 1, s => readsFrom (a + 1) n (s.afterRead a)

/-- The read requests for `n` bytes from PC, with the answers of a memory that reading does not change. -/
def fetchReads (n : Nat) (s : State) : List BusOp :=
  (List.range n).map fun k => .read (s.pc + BitVec.ofNat 16 k) (s.mem.answer (s.pc + BitVec.ofNat 16 k))

/-- The address of a request, and whether it is a write. -/
def target : BusOp → Bool × Word
  | .read a _ => (false, a)
  | .write a _ _ => (true, a)

/-- The fetch requests of a step, in order (R69): `n` bytes of instruction from PC, less the opcode under
HARNESS. -/
def fetchTargets (n : Nat) (s : State) : List (Bool × Word) :=
  match s.cfg.opcodeSource with
  | .fetch => (List.range n).map fun k => (false, s.pc + BitVec.ofNat 16 k)
  | .harness => (List.range (n - 1)).map fun k => (false, s.pc + BitVec.ofNat 16 (k + 1))

/-- The registers an instruction's rule writes (spec/10_state.md R23). -/
def dest : Instr → List Reg8
  | .ldBcD16 _ | .ldBcA | .incBc | .decBc | .popBc => [.b, .c]
  | .ldBD8 _ | .incB | .decB | .ldBB | .ldBC | .ldBD | .ldBE | .ldBH | .ldBL | .ldBIndHl | .ldBA => [.b]
  | .ldCD8 _ | .incC | .decC | .ldCB | .ldCC | .ldCD | .ldCE | .ldCH | .ldCL | .ldCIndHl | .ldCA => [.c]
  | .ldDeD16 _ | .incDe | .decDe | .popDe => [.d, .e]
  | .ldDD8 _ | .incD | .decD | .ldDB | .ldDC | .ldDD | .ldDE | .ldDH | .ldDL | .ldDIndHl | .ldDA => [.d]
  | .ldED8 _ | .incE | .decE | .ldEB | .ldEC | .ldED | .ldEE | .ldEH | .ldEL | .ldEIndHl | .ldEA => [.e]
  | .ldHlD16 _ | .ldHlSpR8 _ | .addHlBc | .addHlDe | .ldIndHlIncA | .incHl | .addHlHl | .decHl
  | .ldIndHlDecA | .addHlSp | .popHl => [.h, .l]
  | .ldHD8 _ | .incH | .decH | .ldHB | .ldHC | .ldHD | .ldHE | .ldHH | .ldHL | .ldHIndHl | .ldHA => [.h]
  | .ldLD8 _ | .incL | .decL | .ldLB | .ldLC | .ldLD | .ldLE | .ldLH | .ldLL | .ldLIndHl | .ldLA => [.l]
  | .ldAD8 _ | .addAD8 _ | .adcAD8 _ | .subD8 _ | .sbcAD8 _ | .andD8 _ | .xorD8 _ | .ldhAIndA8 _
  | .orD8 _ | .ldAIndA16 _ | .rlca | .ldAIndBc | .rrca | .rla | .ldAIndDe | .rra | .daa | .cpl
  | .incA | .decA | .ldAB | .ldAC | .ldAD | .ldAE | .ldAH | .ldAL | .ldAIndHl | .ldAA | .addAB
  | .addAC | .addAD | .addAE | .addAH | .addAL | .addAIndHl | .addAA | .adcAB | .adcAC | .adcAD
  | .adcAE | .adcAH | .adcAL | .adcAIndHl | .adcAA | .subB | .subC | .subD | .subE | .subH | .subL
  | .subIndHl | .subA | .sbcAB | .sbcAC | .sbcAD | .sbcAE | .sbcAH | .sbcAL | .sbcAIndHl | .sbcAA
  | .andB | .andC | .andD | .andE | .andH | .andL | .andIndHl | .andA | .xorB | .xorC | .xorD
  | .xorE | .xorH | .xorL | .xorIndHl | .xorA | .orB | .orC | .orD | .orE | .orH | .orL | .orIndHl
  | .orA | .popAf | .ldAIndC => [.a]
  | .ldAIndHlInc | .ldAIndHlDec => [.a, .h, .l]
  | _ => []

/-- The flags an instruction's rule lists as written, as Z, N, H, C (R28). -/
def flagsWritten : Instr → Bool × Bool × Bool × Bool
  | .addAD8 _ | .adcAD8 _ | .subD8 _ | .sbcAD8 _ | .andD8 _ | .addSpR8 _ | .xorD8 _ | .orD8 _
  | .ldHlSpR8 _ | .cpD8 _ | .incB | .decB | .rlca | .incC | .decC | .rrca | .incD | .decD | .rla
  | .incE | .decE | .rra | .incH | .decH | .incL | .decL | .incIndHl | .decIndHl | .incA | .decA
  | .addAB | .addAC | .addAD | .addAE | .addAH | .addAL | .addAIndHl | .addAA | .adcAB | .adcAC
  | .adcAD | .adcAE | .adcAH | .adcAL | .adcAIndHl | .adcAA | .subB | .subC | .subD | .subE | .subH
  | .subL | .subIndHl | .subA | .sbcAB | .sbcAC | .sbcAD | .sbcAE | .sbcAH | .sbcAL | .sbcAIndHl
  | .sbcAA | .andB | .andC | .andD | .andE | .andH | .andL | .andIndHl | .andA | .xorB | .xorC
  | .xorD | .xorE | .xorH | .xorL | .xorIndHl | .xorA | .orB | .orC | .orD | .orE | .orH | .orL
  | .orIndHl | .orA | .cpB | .cpC | .cpD | .cpE | .cpH | .cpL | .cpIndHl | .cpA | .popAf => (true, true, true, true)
  | .addHlBc | .addHlDe | .addHlHl | .scf | .addHlSp | .ccf => (false, true, true, true)
  | .daa => (true, false, true, true)
  | .cpl => (false, true, true, false)
  | _ => (false, false, false, false)

/-- The instructions whose rule writes SP (R23). -/
def writesSp : Instr → Bool
  | .ldSpD16 _ | .callNzA16 _ | .callZA16 _ | .callA16 _ | .callNcA16 _ | .callCA16 _ | .addSpR8 _
  | .incSp | .decSp | .retNz | .popBc | .pushBc | .rst00 | .retZ | .ret | .rst08 | .retNc | .popDe
  | .pushDe | .rst10 | .retC | .reti | .rst18 | .popHl | .pushHl | .rst20 | .rst28 | .popAf
  | .pushAf | .rst30 | .ldSpHl | .rst38 => true
  | _ => false

/-- The instructions whose rule writes PC other than by the fetch (45_control.md). -/
def writesPc : Instr → Bool
  | .jrR8 _ | .jrNzR8 _ | .jrZR8 _ | .jrNcR8 _ | .jrCR8 _ | .jpNzA16 _ | .jpA16 _ | .callNzA16 _
  | .jpZA16 _ | .callZA16 _ | .callA16 _ | .jpNcA16 _ | .callNcA16 _ | .jpCA16 _ | .callCA16 _
  | .retNz | .rst00 | .retZ | .ret | .rst08 | .retNc | .rst10 | .retC | .reti | .rst18 | .rst20
  | .jpHl | .rst28 | .rst30 | .rst38 => true
  | _ => false

/-- The addresses an instruction stores to, in order (R69). -/
def storedAt (i : Instr) (s : State) : List Word :=
  match i with
  | .ldIndA16Sp t => [t, t + 1]
  | .ldIndHlD8 _ | .ldIndHlIncA | .ldIndHlDecA | .incIndHl | .decIndHl | .ldIndHlB | .ldIndHlC
  | .ldIndHlD | .ldIndHlE | .ldIndHlH | .ldIndHlL | .ldIndHlA => [s.hl]
  | .callNzA16 _ => if s.cond .nz then [s.sp - 2, s.sp - 2 + 1] else []
  | .callZA16 _ => if s.cond .z then [s.sp - 2, s.sp - 2 + 1] else []
  | .callA16 _ | .pushBc | .rst00 | .rst08 | .pushDe | .rst10 | .rst18 | .pushHl | .rst20 | .rst28
  | .pushAf | .rst30 | .rst38 => [s.sp - 2, s.sp - 2 + 1]
  | .callNcA16 _ => if s.cond .nc then [s.sp - 2, s.sp - 2 + 1] else []
  | .callCA16 _ => if s.cond .c then [s.sp - 2, s.sp - 2 + 1] else []
  | .ldhIndA8A o => [wordOf 0xFF o]
  | .ldIndA16A t => [t]
  | .ldIndDeA => [s.de]
  | .ldIndCA => [wordOf 0xFF s.c]
  | _ => []

/-- The addresses an instruction reads data from, in order (R69). -/
def readAt (i : Instr) (s : State) : List Word :=
  match i with
  | .ldhAIndA8 o => [wordOf 0xFF o]
  | .ldAIndA16 t => [t]
  | .ldAIndBc => [s.bc]
  | .ldAIndDe => [s.de]
  | .ldAIndHlInc | .incIndHl | .decIndHl | .ldAIndHlDec | .ldBIndHl | .ldCIndHl | .ldDIndHl
  | .ldEIndHl | .ldHIndHl | .ldLIndHl | .ldAIndHl | .addAIndHl | .adcAIndHl | .subIndHl
  | .sbcAIndHl | .andIndHl | .xorIndHl | .orIndHl | .cpIndHl => [s.hl]
  | .retNz => if s.cond .nz then [s.sp, s.sp + 1] else []
  | .popBc | .ret | .popDe | .reti | .popHl | .popAf => [s.sp, s.sp + 1]
  | .retZ => if s.cond .z then [s.sp, s.sp + 1] else []
  | .retNc => if s.cond .nc then [s.sp, s.sp + 1] else []
  | .retC => if s.cond .c then [s.sp, s.sp + 1] else []
  | .ldAIndC => [wordOf 0xFF s.c]
  | _ => []

/-- The cost of an instruction: the table of spec/70_reset_and_hazards.md R341. -/
def cost (i : Instr) (s : State) : Nat :=
  match i with
  | .prefixCb | .illegalD3 | .illegalDB | .illegalDD | .illegalE3 | .illegalE4 | .illegalEB
  | .illegalEC | .illegalED | .illegalF4 | .illegalFC | .illegalFD => 0
  | .stop _ | .nop | .incB | .decB | .rlca | .incC | .decC | .rrca | .incD | .decD | .rla | .incE
  | .decE | .rra | .incH | .decH | .daa | .incL | .decL | .cpl | .scf | .incA | .decA | .ccf
  | .ldBB | .ldBC | .ldBD | .ldBE | .ldBH | .ldBL | .ldBA | .ldCB | .ldCC | .ldCD | .ldCE | .ldCH
  | .ldCL | .ldCA | .ldDB | .ldDC | .ldDD | .ldDE | .ldDH | .ldDL | .ldDA | .ldEB | .ldEC | .ldED
  | .ldEE | .ldEH | .ldEL | .ldEA | .ldHB | .ldHC | .ldHD | .ldHE | .ldHH | .ldHL | .ldHA | .ldLB
  | .ldLC | .ldLD | .ldLE | .ldLH | .ldLL | .ldLA | .halt | .ldAB | .ldAC | .ldAD | .ldAE | .ldAH
  | .ldAL | .ldAA | .addAB | .addAC | .addAD | .addAE | .addAH | .addAL | .addAA | .adcAB | .adcAC
  | .adcAD | .adcAE | .adcAH | .adcAL | .adcAA | .subB | .subC | .subD | .subE | .subH | .subL
  | .subA | .sbcAB | .sbcAC | .sbcAD | .sbcAE | .sbcAH | .sbcAL | .sbcAA | .andB | .andC | .andD
  | .andE | .andH | .andL | .andA | .xorB | .xorC | .xorD | .xorE | .xorH | .xorL | .xorA | .orB
  | .orC | .orD | .orE | .orH | .orL | .orA | .cpB | .cpC | .cpD | .cpE | .cpH | .cpL | .cpA
  | .jpHl | .di | .ei => 4
  | .ldBD8 _ | .ldCD8 _ | .ldDD8 _ | .ldED8 _ | .ldHD8 _ | .ldLD8 _ | .ldAD8 _ | .addAD8 _
  | .adcAD8 _ | .subD8 _ | .sbcAD8 _ | .andD8 _ | .xorD8 _ | .orD8 _ | .cpD8 _ | .ldBcA | .incBc
  | .addHlBc | .ldAIndBc | .decBc | .ldIndDeA | .incDe | .addHlDe | .ldAIndDe | .decDe
  | .ldIndHlIncA | .incHl | .addHlHl | .ldAIndHlInc | .decHl | .ldIndHlDecA | .incSp | .addHlSp
  | .ldAIndHlDec | .decSp | .ldBIndHl | .ldCIndHl | .ldDIndHl | .ldEIndHl | .ldHIndHl | .ldLIndHl
  | .ldIndHlB | .ldIndHlC | .ldIndHlD | .ldIndHlE | .ldIndHlH | .ldIndHlL | .ldIndHlA | .ldAIndHl
  | .addAIndHl | .adcAIndHl | .subIndHl | .sbcAIndHl | .andIndHl | .xorIndHl | .orIndHl | .cpIndHl
  | .ldIndCA | .ldAIndC | .ldSpHl => 8
  | .ldBcD16 _ | .ldDeD16 _ | .jrR8 _ | .ldHlD16 _ | .ldSpD16 _ | .ldIndHlD8 _ | .ldhIndA8A _
  | .ldhAIndA8 _ | .incIndHl | .decIndHl | .popBc | .popDe | .popHl | .popAf => 12
  | .jpA16 _ | .addSpR8 _ | .ldIndA16A _ | .ldHlSpR8 _ | .ldAIndA16 _ | .pushBc | .rst00 | .ret
  | .rst08 | .pushDe | .rst10 | .reti | .rst18 | .pushHl | .rst20 | .rst28 | .pushAf | .rst30
  | .rst38 => 16
  | .ldIndA16Sp _ => 20
  | .callA16 _ => 24
  | .jrCR8 _ => if s.cond .c then 12 else 8
  | .retC => if s.cond .c then 20 else 8
  | .jrZR8 _ => if s.cond .z then 12 else 8
  | .retZ => if s.cond .z then 20 else 8
  | .jpCA16 _ => if s.cond .c then 16 else 12
  | .callCA16 _ => if s.cond .c then 24 else 12
  | .jrNcR8 _ => if s.cond .nc then 12 else 8
  | .retNc => if s.cond .nc then 20 else 8
  | .jrNzR8 _ => if s.cond .nz then 12 else 8
  | .retNz => if s.cond .nz then 20 else 8
  | .jpZA16 _ => if s.cond .z then 16 else 12
  | .callZA16 _ => if s.cond .z then 24 else 12
  | .jpNcA16 _ => if s.cond .nc then 16 else 12
  | .callNcA16 _ => if s.cond .nc then 24 else 12
  | .jpNzA16 _ => if s.cond .nz then 16 else 12
  | .callNzA16 _ => if s.cond .nz then 24 else 12

end Sys2Proof.Claims

open Sys2Proof Sys2Proof.Machine Sys2Proof.Claims

/-- ADD and ADC: encoding, result, flags, cost and frame of the r, (HL) and d8 forms. States R120, R122, R123, R124, R125, R126, R127. -/
def Obligations.AddAndAdcResults : Prop :=
  ∀ (s : State) (r : Reg8) (v : Byte),
    (encode (.alu .add r) = [0b10#2 ++ 0b000#3 ++ r.code] ∧
      exec (.alu .add r) s = .next (done 1 4 (added (s.reg r) 0 s))) ∧
    (encode (.aluHl .add) = [0x86] ∧
      exec (.aluHl .add) s = .next (done 1 8 (added (s.readByte s.hl) 0 (s.afterRead s.hl)))) ∧
    (encode (.aluImm .add v) = [0xC6, v] ∧ exec (.aluImm .add v) s = .next (done 2 8 (added v 0 s))) ∧
    (encode (.alu .adc r) = [0b10#2 ++ 0b001#3 ++ r.code] ∧
      exec (.alu .adc r) s = .next (done 1 4 (added (s.reg r) s.flagC.toNat s))) ∧
    (encode (.aluHl .adc) = [0x8E] ∧
      exec (.aluHl .adc) s =
        .next (done 1 8 (added (s.readByte s.hl) s.flagC.toNat (s.afterRead s.hl)))) ∧
    (encode (.aluImm .adc v) = [0xCE, v] ∧
      exec (.aluImm .adc v) s = .next (done 2 8 (added v s.flagC.toNat s)))

/-- SUB and SBC: encoding, result, flags under both values of SUB_HALF_CARRY, cost and frame. States R121, R128, R129, R130, R131, R132, R133. -/
def Obligations.SubAndSbcResults : Prop :=
  ∀ (s : State) (r : Reg8) (v : Byte),
    (encode (.alu .sub r) = [0b10#2 ++ 0b010#3 ++ r.code] ∧
      exec (.alu .sub r) s = .next (done 1 4 (subtracted (s.reg r) 0 s))) ∧
    (encode (.aluHl .sub) = [0x96] ∧
      exec (.aluHl .sub) s = .next (done 1 8 (subtracted (s.readByte s.hl) 0 (s.afterRead s.hl)))) ∧
    (encode (.aluImm .sub v) = [0xD6, v] ∧ exec (.aluImm .sub v) s = .next (done 2 8 (subtracted v 0 s))) ∧
    (encode (.alu .sbc r) = [0b10#2 ++ 0b011#3 ++ r.code] ∧
      exec (.alu .sbc r) s = .next (done 1 4 (subtracted (s.reg r) s.flagC.toNat s))) ∧
    (encode (.aluHl .sbc) = [0x9E] ∧
      exec (.aluHl .sbc) s =
        .next (done 1 8 (subtracted (s.readByte s.hl) s.flagC.toNat (s.afterRead s.hl)))) ∧
    (encode (.aluImm .sbc v) = [0xDE, v] ∧
      exec (.aluImm .sbc v) s = .next (done 2 8 (subtracted v s.flagC.toNat s)))

/-- CP writes the flags of the subtraction and no register. States R134, R135, R136. -/
def Obligations.CpResults : Prop :=
  ∀ (s : State) (r : Reg8) (v : Byte),
    (encode (.alu .cp r) = [0b10#2 ++ 0b111#3 ++ r.code] ∧
      exec (.alu .cp r) s = .next (done 1 4 { s with f := borrowFlags (s.reg r) 0 s })) ∧
    (encode (.aluHl .cp) = [0xBE] ∧
      exec (.aluHl .cp) s =
        .next (done 1 8 { s.afterRead s.hl with f := borrowFlags (s.readByte s.hl) 0 s })) ∧
    (encode (.aluImm .cp v) = [0xFE, v] ∧
      exec (.aluImm .cp v) s = .next (done 2 8 { s with f := borrowFlags v 0 s })) ∧
    (stateOr s (exec (.aluImm .cp v) s)).flagZ = decide (s.a = v) ∧
    (stateOr s (exec (.aluImm .cp v) s)).flagC = decide (s.a.toNat < v.toNat)

/-- AND, XOR and OR: encoding, result, flags, cost and frame of the r, (HL) and d8 forms. States R137, R138, R139, R140, R141, R142, R143, R144, R145. -/
def Obligations.BitwiseResults : Prop :=
  ∀ (s : State) (r : Reg8) (v : Byte),
    (encode (.alu .and r) = [0b10#2 ++ 0b100#3 ++ r.code] ∧
      exec (.alu .and r) s = .next (done 1 4 (bitwise (s.a &&& s.reg r) true s))) ∧
    (encode (.aluHl .and) = [0xA6] ∧
      exec (.aluHl .and) s =
        .next (done 1 8 (bitwise (s.a &&& s.readByte s.hl) true (s.afterRead s.hl)))) ∧
    (encode (.aluImm .and v) = [0xE6, v] ∧
      exec (.aluImm .and v) s = .next (done 2 8 (bitwise (s.a &&& v) true s))) ∧
    (encode (.alu .xor r) = [0b10#2 ++ 0b101#3 ++ r.code] ∧
      exec (.alu .xor r) s = .next (done 1 4 (bitwise (s.a ^^^ s.reg r) false s))) ∧
    (encode (.aluHl .xor) = [0xAE] ∧
      exec (.aluHl .xor) s =
        .next (done 1 8 (bitwise (s.a ^^^ s.readByte s.hl) false (s.afterRead s.hl)))) ∧
    (encode (.aluImm .xor v) = [0xEE, v] ∧
      exec (.aluImm .xor v) s = .next (done 2 8 (bitwise (s.a ^^^ v) false s))) ∧
    (encode (.alu .or r) = [0b10#2 ++ 0b110#3 ++ r.code] ∧
      exec (.alu .or r) s = .next (done 1 4 (bitwise (s.a ||| s.reg r) false s))) ∧
    (encode (.aluHl .or) = [0xB6] ∧
      exec (.aluHl .or) s =
        .next (done 1 8 (bitwise (s.a ||| s.readByte s.hl) false (s.afterRead s.hl)))) ∧
    (encode (.aluImm .or v) = [0xF6, v] ∧
      exec (.aluImm .or v) s = .next (done 2 8 (bitwise (s.a ||| v) false s)))

/-- INC and DEC of a register and of the byte at HL: result, all four flags, cost and frame. States R146, R147, R148, R149, R150, R151. -/
def Obligations.IncDecByteResults : Prop :=
  ∀ (s : State) (r : Reg8),
    (encode (.inc r) = [0b00#2 ++ r.code ++ 0b100#3] ∧
      exec (.inc r) s =
        .next (done 1 4 { s.setReg r (BitVec.ofNat 8 ((s.reg r).toNat + 1)) with f := incFlags (s.reg r) })) ∧
    (encode .incIndHl = [0x34] ∧
      exec .incIndHl s =
        .next (done 1 12 { (s.afterRead s.hl).writeByte s.hl (BitVec.ofNat 8 ((s.readByte s.hl).toNat + 1)) with
          f := incFlags (s.readByte s.hl) })) ∧
    (encode (.dec r) = [0b00#2 ++ r.code ++ 0b101#3] ∧
      exec (.dec r) s =
        .next (done 1 4 { s.setReg r (BitVec.ofInt 8 ((s.reg r).toNat - 1)) with f := decFlags (s.reg r) })) ∧
    (encode .decIndHl = [0x35] ∧
      exec .decIndHl s =
        .next (done 1 12 { (s.afterRead s.hl).writeByte s.hl (BitVec.ofInt 8 ((s.readByte s.hl).toNat - 1)) with
          f := decFlags (s.readByte s.hl) }))

/-- CPL, SCF and CCF: result, the flags they write and the flags they keep. States R152, R154, R155. -/
def Obligations.CplScfCcfResults : Prop :=
  ∀ s : State,
    (encode .cpl = [0x2F] ∧
      exec .cpl s = .next (done 1 4 { s with a := 0xFF - s.a, f := packFlags s.flagZ true true s.flagC })) ∧
    (encode .scf = [0x37] ∧ exec .scf s = .next (done 1 4 { s with f := packFlags s.flagZ false false true })) ∧
    (encode .ccf = [0x3F] ∧
      exec .ccf s = .next (done 1 4 { s with f := packFlags s.flagZ false false (!s.flagC) }))

/-- DAA: the adjusted accumulator and its flags on every A and F. States R153. -/
def Obligations.DaaResult : Prop :=
  ∀ s : State,
    encode .daa = [0x27] ∧
    exec .daa s = .next (done 1 4 { s with
      a := BitVec.ofInt 8 (daaSum s.flagN s.flagH s.flagC s.a)
      f := packFlags (decide (daaSum s.flagN s.flagH s.flagC s.a % 256 = 0)) s.flagN false
        (s.flagC || (!s.flagN && decide (0x99 < s.a.toNat))) })

/-- ADD HL,rr: H from bit 3, C from bit 15, Z kept. States R170. -/
def Obligations.AddHlResult : Prop :=
  ∀ (s : State) (p : Pair),
    encode (.addHl p) = [0b00#2 ++ p.code ++ 0b1001#4] ∧
    exec (.addHl p) s = .next (done 1 8 { s.setHl (BitVec.ofNat 16 (s.hl.toNat + (s.pair p).toNat)) with
      f := packFlags s.flagZ false (decide (0xF < s.l.toNat % 16 + (lo8 (s.pair p)).toNat % 16))
        (decide (0xFFFF < s.hl.toNat + (s.pair p).toNat)) })

/-- INC rr and DEC rr wrap mod 65536 and write no flag. States R171, R172. -/
def Obligations.IncDecPairResults : Prop :=
  ∀ (s : State) (p : Pair),
    (encode (.incPair p) = [0b00#2 ++ p.code ++ 0b0011#4] ∧
      exec (.incPair p) s = .next (done 1 8 (s.setPair p (BitVec.ofNat 16 ((s.pair p).toNat + 1))))) ∧
    (encode (.decPair p) = [0b00#2 ++ p.code ++ 0b1011#4] ∧
      exec (.decPair p) s = .next (done 1 8 (s.setPair p (BitVec.ofInt 16 ((s.pair p).toNat - 1)))))

/-- ADD SP,r8 and LD HL,SP+r8: signed sum, unsigned low-byte flags. States R173, R174, R175. -/
def Obligations.SpOffsetResults : Prop :=
  ∀ (s : State) (e : Byte),
    (encode (.addSpR8 e) = [0xE8, e] ∧
      exec (.addSpR8 e) s = .next (done 2 16 { s with sp := displaced s.sp.toNat e, f := spFlags s.sp e })) ∧
    (encode (.ldHlSpR8 e) = [0xF8, e] ∧
      exec (.ldHlSpR8 e) s =
        .next (done 2 16 { s.setHl (displaced s.sp.toNat e) with f := spFlags s.sp e }))

/-- RLCA, RRCA, RLA and RRA: rotated A, C the bit shifted out, Z N H cleared. States R180, R181, R182, R183. -/
def Obligations.RotateResults : Prop :=
  ∀ s : State,
    (encode .rlca = [0x07] ∧
      exec .rlca s = .next (done 1 4 { s with a := s.a.rotateLeft 1, f := rotateFlags s 7 })) ∧
    (encode .rrca = [0x0F] ∧
      exec .rrca s = .next (done 1 4 { s with a := s.a.rotateRight 1, f := rotateFlags s 0 })) ∧
    (encode .rla = [0x17] ∧
      exec .rla s =
        .next (done 1 4 { s with a := BitVec.ofNat 8 (2 * s.a.toNat + s.flagC.toNat), f := rotateFlags s 7 })) ∧
    (encode .rra = [0x1F] ∧
      exec .rra s =
        .next (done 1 4 { s with
          a := BitVec.ofNat 8 (s.a.toNat / 2 + 128 * s.flagC.toNat), f := rotateFlags s 0 }))

/-- LD r,r' and LD r,d8: encoding, result, cost and frame. States R190, R191. -/
def Obligations.LoadRegisterResults : Prop :=
  ∀ (s : State) (dst r : Reg8) (v : Byte),
    (encode (.ld dst r) = [0b01#2 ++ dst.code ++ r.code] ∧
      exec (.ld dst r) s = .next (done 1 4 (s.setReg dst (s.reg r)))) ∧
    (encode (.ldImm dst v) = [0b00#2 ++ dst.code ++ 0b110#3, v] ∧
      exec (.ldImm dst v) s = .next (done 2 8 (s.setReg dst v)))

/-- LD r,(HL), LD (HL),r and LD (HL),d8: encoding, access, cost and frame. States R192, R193, R194. -/
def Obligations.LoadStoreThroughHlResults : Prop :=
  ∀ (s : State) (r : Reg8) (v : Byte),
    (encode (.ldFromHl r) = [0b01#2 ++ r.code ++ 0b110#3] ∧
      exec (.ldFromHl r) s = .next (done 1 8 ((s.afterRead s.hl).setReg r (s.readByte s.hl)))) ∧
    (encode (.ldToHl r) = [0b01110#5 ++ r.code] ∧
      exec (.ldToHl r) s = .next (done 1 8 (s.writeByte s.hl (s.reg r)))) ∧
    (encode (.ldIndHlD8 v) = [0x36, v] ∧ exec (.ldIndHlD8 v) s = .next (done 2 12 (s.writeByte s.hl v)))

/-- LD BC,A widens A into BC; LD (DE),A, LD A,(BC) and LD A,(DE) access the pair; cost 8. States R195, R196, R197, R198. -/
def Obligations.AccumulatorThroughBcDe : Prop :=
  ∀ s : State,
    (encode .ldBcA = [0x02] ∧ exec .ldBcA s = .next (done 1 8 { s with b := 0x00, c := s.a })) ∧
    (encode .ldIndDeA = [0x12] ∧ exec .ldIndDeA s = .next (done 1 8 (s.writeByte s.de s.a))) ∧
    (encode .ldAIndBc = [0x0A] ∧
      exec .ldAIndBc s = .next (done 1 8 { s.afterRead s.bc with a := s.readByte s.bc })) ∧
    (encode .ldAIndDe = [0x1A] ∧
      exec .ldAIndDe s = .next (done 1 8 { s.afterRead s.de with a := s.readByte s.de }))

/-- LD (HL±),A and LD A,(HL±): the access at the old HL, then HL moves by one and wraps. States R199, R200, R201, R202. -/
def Obligations.PostIncrementDecrementThroughHl : Prop :=
  ∀ s : State,
    (encode .ldIndHlIncA = [0x22] ∧
      exec .ldIndHlIncA s =
        .next (done 1 8 ((s.writeByte s.hl s.a).setHl (BitVec.ofNat 16 (s.hl.toNat + 1))))) ∧
    (encode .ldIndHlDecA = [0x32] ∧
      exec .ldIndHlDecA s =
        .next (done 1 8 ((s.writeByte s.hl s.a).setHl (BitVec.ofInt 16 (s.hl.toNat - 1))))) ∧
    (encode .ldAIndHlInc = [0x2A] ∧
      exec .ldAIndHlInc s = .next (done 1 8
        ({ s.afterRead s.hl with a := s.readByte s.hl }.setHl (BitVec.ofNat 16 (s.hl.toNat + 1))))) ∧
    (encode .ldAIndHlDec = [0x3A] ∧
      exec .ldAIndHlDec s = .next (done 1 8
        ({ s.afterRead s.hl with a := s.readByte s.hl }.setHl (BitVec.ofInt 16 (s.hl.toNat - 1)))))

/-- LD rr,d16, LD (a16),SP and LD SP,HL: encoding, result, cost and frame. States R203, R204, R211. -/
def Obligations.WordLoadResults : Prop :=
  ∀ (s : State) (p : Pair) (w : Word),
    (encode (.ldPair p w) = [0b00#2 ++ p.code ++ 0b0001#4, lo8 w, hi8 w] ∧
      exec (.ldPair p w) s = .next (done 3 12 (s.setPair p w))) ∧
    (encode (.ldIndA16Sp w) = [0x08, lo8 w, hi8 w] ∧
      exec (.ldIndA16Sp w) s =
        .next (done 3 20 ((s.writeByte w (lo8 s.sp)).writeByte (w + 1) (hi8 s.sp)))) ∧
    (encode .ldSpHl = [0xF9] ∧ exec .ldSpHl s = .next (done 1 8 { s with sp := s.hl }))

/-- LDH, LD (C),A, LD A,(C), LD (a16),A and LD A,(a16): one access at the high page or the operand. States R205, R206, R207, R208, R209, R210. -/
def Obligations.HighPageAndAbsoluteResults : Prop :=
  ∀ (s : State) (o : Byte) (t : Word),
    (encode (.ldhIndA8A o) = [0xE0, o] ∧
      exec (.ldhIndA8A o) s = .next (done 2 12 (s.writeByte (wordOf 0xFF o) s.a))) ∧
    (encode (.ldhAIndA8 o) = [0xF0, o] ∧
      exec (.ldhAIndA8 o) s =
        .next (done 2 12 { s.afterRead (wordOf 0xFF o) with a := s.readByte (wordOf 0xFF o) })) ∧
    (encode .ldIndCA = [0xE2] ∧
      exec .ldIndCA s = .next (done 1 8 (s.writeByte (wordOf 0xFF s.c) s.a))) ∧
    (encode .ldAIndC = [0xF2] ∧
      exec .ldAIndC s =
        .next (done 1 8 { s.afterRead (wordOf 0xFF s.c) with a := s.readByte (wordOf 0xFF s.c) })) ∧
    (encode (.ldIndA16A t) = [0xEA, lo8 t, hi8 t] ∧
      exec (.ldIndA16A t) s = .next (done 3 16 (s.writeByte t s.a))) ∧
    (encode (.ldAIndA16 t) = [0xFA, lo8 t, hi8 t] ∧
      exec (.ldAIndA16 t) s = .next (done 3 16 { s.afterRead t with a := s.readByte t }))

/-- JR and JR cc: the base is the address after the instruction; two costs. States R233, R234. -/
def Obligations.RelativeJumpResults : Prop :=
  ∀ (s : State) (cc : Cond) (e : Byte),
    (encode (.jrR8 e) = [0x18, e] ∧
      exec (.jrR8 e) s = .next { s with pc := displaced (s.pc.toNat + 2) e, cycles := s.cycles + 12 }) ∧
    (encode (.jrIf cc e) = [0b001#3 ++ cc.code ++ 0b000#3, e] ∧
      exec (.jrIf cc e) s =
        if s.cond cc then .next { s with pc := displaced (s.pc.toNat + 2) e, cycles := s.cycles + 12 }
        else .next (done 2 8 s))

/-- JP a16, JP cc,a16 and JP HL: target, two costs, no flag. States R235, R236, R237. -/
def Obligations.AbsoluteJumpResults : Prop :=
  ∀ (s : State) (cc : Cond) (t : Word),
    (encode (.jpA16 t) = [0xC3, lo8 t, hi8 t] ∧
      exec (.jpA16 t) s = .next { s with pc := t, cycles := s.cycles + 16 }) ∧
    (encode (.jpIf cc t) = [0b110#3 ++ cc.code ++ 0b010#3, lo8 t, hi8 t] ∧
      exec (.jpIf cc t) s =
        if s.cond cc then .next { s with pc := t, cycles := s.cycles + 16 } else .next (done 3 12 s)) ∧
    (encode .jpHl = [0xE9] ∧ exec .jpHl s = .next { s with pc := s.hl, cycles := s.cycles + 4 })

/-- CALL and CALL cc push the address of the next instruction; two costs. States R238, R239. -/
def Obligations.CallResults : Prop :=
  ∀ (s : State) (cc : Cond) (t : Word),
    let taken := { (s.writeByte (s.sp - 2) (lo8 (s.pc + 3))).writeByte (s.sp - 2 + 1) (hi8 (s.pc + 3)) with
      sp := s.sp - 2, pc := t, cycles := s.cycles + 24 }
    (encode (.callA16 t) = [0xCD, lo8 t, hi8 t] ∧ exec (.callA16 t) s = .next taken) ∧
    (encode (.callIf cc t) = [0b110#3 ++ cc.code ++ 0b100#3, lo8 t, hi8 t] ∧
      exec (.callIf cc t) s = if s.cond cc then .next taken else .next (done 3 12 s))

/-- RET, RET cc and RETI pop PC; a return not taken reads nothing. States R240, R241, R242. -/
def Obligations.ReturnResults : Prop :=
  ∀ (s : State) (cc : Cond),
    let popped (k : Nat) := { (s.afterRead s.sp).afterRead (s.sp + 1) with
      pc := wordOf ((s.afterRead s.sp).readByte (s.sp + 1)) (s.readByte s.sp)
      sp := s.sp + 2, cycles := s.cycles + k }
    (encode .ret = [0xC9] ∧ exec .ret s = .next (popped 16)) ∧
    (encode .reti = [0xD9] ∧ exec .reti s = .next (popped 16)) ∧
    (encode (.retIf cc) = [0b110#3 ++ cc.code ++ 0b000#3] ∧
      exec (.retIf cc) s = if s.cond cc then .next (popped 20) else .next (done 1 8 s))

/-- RST pushes the next address and goes to 8 × y. States R243. -/
def Obligations.RestartResult : Prop :=
  ∀ (s : State) (y : BitVec 3),
    encode (.rst y) = [0b11#2 ++ y ++ 0b111#3] ∧
    exec (.rst y) s =
      .next { (s.writeByte (s.sp - 2) (lo8 (s.pc + 1))).writeByte (s.sp - 2 + 1) (hi8 (s.pc + 1)) with
        sp := s.sp - 2, pc := BitVec.ofNat 16 (8 * y.toNat), cycles := s.cycles + 16 }

/-- PUSH rr, POP rr and POP AF: SP, the two requests, the register pair, the masked F. States R231, R232, R244, R245, R246. -/
def Obligations.PushPopResults : Prop :=
  ∀ (s : State) (p : StackPair),
    let s2 := (s.afterRead s.sp).afterRead (s.sp + 1)
    let lo := s.readByte s.sp
    let hi := (s.afterRead s.sp).readByte (s.sp + 1)
    (encode (.push p) = [0b11#2 ++ p.code ++ 0b0101#4] ∧
      exec (.push p) s =
        .next (done 1 16 { (s.writeByte (s.sp - 2) (lo8 (s.stackPair p))).writeByte (s.sp - 2 + 1)
            (hi8 (s.stackPair p)) with sp := s.sp - 2 })) ∧
    encode (.pop p) = [0b11#2 ++ p.code ++ 0b0001#4] ∧
    exec .popBc s = .next (done 1 12 { s2 with b := hi, c := lo, sp := s.sp + 2 }) ∧
    exec .popDe s = .next (done 1 12 { s2 with d := hi, e := lo, sp := s.sp + 2 }) ∧
    exec .popHl s = .next (done 1 12 { s2 with h := hi, l := lo, sp := s.sp + 2 }) ∧
    exec .popAf s = .next (done 1 12 { s2 with a := hi, f := lo &&& 0xF0, sp := s.sp + 2 })

/-- NOP, DI and EI change PC and cycles only. Rests on 46_misc.md R260, R263, R264, 20_memory.md R54, 30_encoding.md R95, R96. The model's own: log 10. -/
def Obligations.NopDiEiResults : Prop :=
  ∀ s : State,
    (encode .nop = [0x00] ∧ exec .nop s = .next (done 1 4 s)) ∧
    (encode .di = [0xF3] ∧ exec .di s = .next (done 1 4 s)) ∧
    (encode .ei = [0xFB] ∧ exec .ei s = .next (done 1 4 s)) ∧
    (s.mode = .running → s.cfg.opcodeSource = .fetch → s.mem.answer s.pc = none →
      step s = .next (done 1 4 ({ s with bus := [] }.afterRead s.pc)))

/-- HALT and STOP advance PC, add their cost and set the mode. States R261, R262. -/
def Obligations.HaltStopResults : Prop :=
  ∀ (s : State) (pad : Byte),
    (encode .halt = [0x76] ∧ exec .halt s = .next (done 1 4 { s with mode := .halted })) ∧
    (encode (.stop pad) = [0x10, pad] ∧ exec (.stop pad) s = .next (done 2 4 { s with mode := .stopped })) ∧
    (step { s with mode := .halted } = .next { s with mode := .halted }) ∧
    (step { s with mode := .stopped } = .next { s with mode := .stopped })

/-- The 11 illegal opcodes and 0xCB set the mode Faulted and change nothing else. Rests on 30_encoding.md R91, R92, R95, R96, 46_misc.md R265, 60_exceptions.md R301, R302. The model's own: log 2, 10. -/
def Obligations.FatalOpcodesFault : Prop :=
  ∀ s : State,
    (∀ p ∈ [(Instr.illegalD3, (0xD3 : Byte)), (.illegalDB, 0xDB), (.illegalDD, 0xDD), (.illegalE3, 0xE3),
        (.illegalE4, 0xE4), (.illegalEB, 0xEB), (.illegalEC, 0xEC), (.illegalED, 0xED), (.illegalF4, 0xF4),
        (.illegalFC, 0xFC), (.illegalFD, 0xFD)],
      encode p.1 = [p.2] ∧ exec p.1 s = .next { s with mode := .faulted .illegalOpcode p.2 } ∧
      (s.mode = .running → s.cfg.opcodeSource = .fetch → s.readByte s.pc = p.2 →
        step s = .next { { s with bus := [] }.afterRead s.pc with mode := .faulted .illegalOpcode p.2 })) ∧
    (encode .prefixCb = [0xCB] ∧ exec .prefixCb s = .next { s with mode := .faulted .notImplemented 0xCB } ∧
      (s.mode = .running → s.cfg.opcodeSource = .fetch → s.readByte s.pc = 0xCB →
        step s = .next { { s with bus := [] }.afterRead s.pc with mode := .faulted .notImplemented 0xCB }))

/-- The fault ports show the cause code and the opcode, and nothing outside Faulted. Rests on 60_exceptions.md R300 (the two causes and their port codes; this spec's own numbering), R31, R40. -/
def Obligations.FaultPortCodes : Prop :=
  ∀ (s : State) (op : Byte),
    (s.raise .illegalOpcode op).faultCause = some 0 ∧ (s.raise .notImplemented op).faultCause = some 1 ∧
    (∀ k, (s.raise k op).faultOpcode = some op ∧ (s.raise k op).safe = false) ∧
    (s.safe = true ↔ s.faultCause = none ∧ s.faultOpcode = none)

/-- The state after reset holds the DMG values, cycles 0, mode Running. Rests on 70_reset_and_hazards.md R330, R332, R333. The model's own: log 9. -/
def Obligations.ResetValues : Prop :=
  State.reset.af = 0x01B0 ∧ State.reset.bc = 0x0013 ∧ State.reset.de = 0x00D8 ∧ State.reset.hl = 0x014D ∧
  State.reset.sp = 0xFFFE ∧ State.reset.pc = 0x0100 ∧ State.reset.cycles = 0 ∧ State.reset.mode = .running ∧
  [State.reset.a, State.reset.f, State.reset.b, State.reset.c, State.reset.d, State.reset.e, State.reset.h,
    State.reset.l] = [0x01, 0xB0, 0x00, 0x13, 0x00, 0xD8, 0x01, 0x4D] ∧
  State.reset.flagZ = true ∧ State.reset.flagN = false ∧ State.reset.flagH = true ∧ State.reset.flagC = true

/-- The reset event puts every register to the revision's values in any mode and keeps memory. Rests on 70_reset_and_hazards.md R330, R331, R334, 60_exceptions.md R305. The model's own: log 7, 8, 9, 10, 12. -/
def Obligations.ResetEventRestartsAnyState : Prop :=
  ∀ s : State, let t := s.resetBlock; let r := Config.regInit s.cfg.revision
    t.a = r.a ∧ t.f.extractLsb' 4 4 = r.flags ∧ t.f &&& 0x0F = 0 ∧ t.bc = r.bc ∧ t.de = r.de ∧ t.hl = r.hl ∧
    t.sp = 0xFFFE ∧ t.pc = 0x0100 ∧ t.cycles = 0 ∧ t.mode = .running ∧ t.mem = s.mem ∧ t.cfg = s.cfg ∧
    t.opcodeIn = s.opcodeIn ∧ t.bus = [] ∧
    (s.cfg.revision = .dmg →
      t = { State.reset with mem := s.mem, cfg := s.cfg, opcodeIn := s.opcodeIn }) ∧
    (s.mode ≠ .running → step s = .next s)

/-- In Halted, Stopped or Faulted any number of steps changes nothing. Rests on 60_exceptions.md R305, 70_reset_and_hazards.md R334. The model's own: log 12, 14. -/
def Obligations.NotRunningStepDoesNothing : Prop :=
  ∀ (s : State) (n : Nat), s.mode ≠ .running →
    step s = .next s ∧ Host.Core.run core n s = .next s ∧ s.resetBlock.mode = .running

/-- A running step executes the instruction its bytes decode to, after exactly its fetch requests. Rests on 30_encoding.md R95, R96, R87, R88, 20_memory.md R69. The model's own: log 10, 11. -/
def Obligations.StepRunsTheDecodedInstruction : Prop :=
  ∀ (s : State) (i : Instr) (rest : List Byte), s.mode = .running →
    (s.cfg.opcodeSource = .fetch → decode (bytesAtPc s) = .ok (i, rest) →
      step s = exec i (readsFrom s.pc (encode i).length { s with bus := [] })) ∧
    (s.cfg.opcodeSource = .harness → decode (bytesFromPort s) = .ok (i, rest) →
      step s = exec i (readsFrom (s.pc + 1) ((encode i).length - 1) { s with bus := [] }))

/-- An instruction whose encoding stands in memory at PC is the one a running step executes. Rests on 30_encoding.md R95, R96, R81, 20_memory.md R67. The model's own: log 3, 10, 11. -/
def Obligations.StepExecutesStoredEncoding : Prop :=
  ∀ (s : State) (i : Instr), s.mode = .running → s.cfg.opcodeSource = .fetch →
    (∀ k, k < (encode i).length → s.mem.backingAt (s.pc + BitVec.ofNat 16 k) ≠ .device) →
    (∀ k, k < (encode i).length →
      s.readByte (s.pc + BitVec.ofNat 16 k) = (encode i).getD k 0) →
    step s = exec i { s with bus := fetchReads (encode i).length s }

/-- Words written out from the encodings decode to their instructions. Rests on 30_encoding.md R81, R90, opcode_table.json. -/
def Obligations.DecodesSampleWords : Prop :=
  decode [0x41] = .ok (.ldBC, []) ∧ decode [0x3E, 0x2A] = .ok (.ldAD8 0x2A, []) ∧
  decode [0x86] = .ok (.addAIndHl, []) ∧ decode [0xCE, 0x3B] = .ok (.adcAD8 0x3B, []) ∧
  decode [0x34] = .ok (.incIndHl, []) ∧ decode [0x29] = .ok (.addHlHl, []) ∧
  decode [0xF8, 0xFE] = .ok (.ldHlSpR8 0xFE, []) ∧ decode [0x17] = .ok (.rla, []) ∧
  decode [0x21, 0xEF, 0xBE] = .ok (.ldHlD16 0xBEEF, []) ∧
  decode [0x08, 0x00, 0xC1] = .ok (.ldIndA16Sp 0xC100, []) ∧
  decode [0xE0, 0x80] = .ok (.ldhIndA8A 0x80, []) ∧ decode [0x20, 0xFC] = .ok (.jrNzR8 0xFC, []) ∧
  decode [0xCD, 0x34, 0x12] = .ok (.callA16 0x1234, []) ∧ decode [0xF1] = .ok (.popAf, []) ∧
  decode [0xFF] = .ok (.rst38, []) ∧ decode [0x76] = .ok (.halt, []) ∧
  decode [0x10, 0x00] = .ok (.stop 0x00, []) ∧ decode [0xCB] = .ok (.prefixCb, []) ∧
  decode [0xD3] = .ok (.illegalD3, [])

/-- Decoding the encoding of any instruction gives it back, with the rest of the bytes. Rests on 30_encoding.md R81, R88, R97. -/
def Obligations.DecodeOfEncode : Prop :=
  ∀ (i : Instr) (rest : List Byte), decode (encode i ++ rest) = .ok (i, rest)

/-- Every byte list decodes to one instruction whose encoding it starts with, or is too short. Rests on 30_encoding.md R90, R97, R99. The model's own: log 15. -/
def Obligations.EncodeOfDecode : Prop :=
  ∀ bytes : List Byte,
    (∀ i rest, decode bytes = .ok (i, rest) → bytes = encode i ++ rest) ∧
    ((∃ i rest, decode bytes = .ok (i, rest)) ↔ ∃ op tail, bytes = op :: tail ∧ (form op).length ≤ bytes.length)

/-- The fields y and z of the x = 1 and x = 2 quadrants select registers and ALU operations. States R83, R86. -/
def Obligations.OpcodeFieldsSelectOperands : Prop :=
  (∀ (dst r : Reg8) (op : AluOp) (v : Byte) (rest : List Byte),
    decode ((0b01#2 ++ dst.code ++ r.code) :: rest) = .ok (.ld dst r, rest) ∧
    decode ((0b01#2 ++ dst.code ++ 0b110#3) :: rest) = .ok (.ldFromHl dst, rest) ∧
    decode ((0b01#2 ++ 0b110#3 ++ r.code) :: rest) = .ok (.ldToHl r, rest) ∧
    decode ((0b01#2 ++ 0b110#3 ++ 0b110#3) :: rest) = .ok (.halt, rest) ∧
    decode ((0b10#2 ++ op.code ++ r.code) :: rest) = .ok (.alu op r, rest) ∧
    decode ((0b10#2 ++ op.code ++ 0b110#3) :: rest) = .ok (.aluHl op, rest) ∧
    decode ((0b11#2 ++ op.code ++ 0b110#3) :: v :: rest) = .ok (.aluImm op v, rest)) ∧
  [Reg8.b, .c, .d, .e, .h, .l, .a].map Reg8.code = [0, 1, 2, 3, 4, 5, 7] ∧
  [AluOp.add, .adc, .sub, .sbc, .and, .xor, .or, .cp].map AluOp.code = [0, 1, 2, 3, 4, 5, 6, 7]

/-- The opcode byte alone gives the length: the listed 3-byte and 2-byte opcodes, else 1. States R99. -/
def Obligations.LengthFromOpcodeByte : Prop :=
  ∀ i : Instr, (encode i).length =
    if i.opcode ∈ [(0x01 : Byte), 0x11, 0x21, 0x31, 0x08, 0xC3, 0xC2, 0xCA, 0xD2, 0xDA, 0xCD, 0xC4, 0xCC, 0xD4,
      0xDC, 0xEA, 0xFA] then 3
    else if i.opcode ∈ [(0x10 : Byte), 0x18, 0x20, 0x28, 0x30, 0x38, 0x06, 0x0E, 0x16, 0x1E, 0x26, 0x2E, 0x36,
      0x3E, 0xC6, 0xCE, 0xD6, 0xDE, 0xE6, 0xEE, 0xF6, 0xFE, 0xE0, 0xF0, 0xE8, 0xF8] then 2
    else 1

/-- The 8-bit and 16-bit views share one storage, high byte first; AF drops F's low nibble. States R22, R26. -/
def Obligations.RegisterFileViews : Prop :=
  ∀ (s : State) (r q : Reg8) (p : Pair) (v : Byte) (w : Word),
    (s.setReg r v).reg q = (if q = r then v else s.reg q) ∧ (s.setPair p w).pair p = w ∧
    s.af = wordOf s.a s.f ∧ s.bc = wordOf s.b s.c ∧ s.de = wordOf s.d s.e ∧ s.hl = wordOf s.h s.l ∧
    s.setStackPair .bc w = { s with b := hi8 w, c := lo8 w } ∧
    s.setStackPair .de w = { s with d := hi8 w, e := lo8 w } ∧
    s.setStackPair .hl w = { s with h := hi8 w, l := lo8 w } ∧
    (s.setStackPair .af w).af = w &&& 0xFFF0 ∧ (s.setStackPair .af w).a = hi8 w ∧
    (s.setReg .b v).bc = wordOf v s.c ∧ (s.setReg .c v).bc = wordOf s.b v ∧
    (s.setReg .d v).de = wordOf v s.e ∧ (s.setReg .e v).de = wordOf s.d v ∧
    (s.setReg .h v).hl = wordOf v s.l ∧ (s.setReg .l v).hl = wordOf s.h v

/-- flags(z,n,h,c): a given flag is written, a dash keeps it, F[3:0] is 0. States R24, R27. -/
def Obligations.FlagUpdateWritesGivenFlags : Prop :=
  ∀ (s : State) (z n h c : Option Bool), let t := s.setFlags z n h c
    t.flagZ = z.getD s.flagZ ∧ t.flagN = n.getD s.flagN ∧ t.flagH = h.getD s.flagH ∧ t.flagC = c.getD s.flagC ∧
    t.f.toNat = 128 * t.flagZ.toNat + 64 * t.flagN.toNat + 32 * t.flagH.toNat + 16 * t.flagC.toNat ∧
    t = { s with f := t.f }

/-- The four conditions test Z or C, read N and H nowhere. States R230. -/
def Obligations.ConditionsTestZAndC : Prop :=
  (∀ s : State, (s.cond .nz ↔ s.flagZ = false) ∧ (s.cond .z ↔ s.flagZ = true) ∧
    (s.cond .nc ↔ s.flagC = false) ∧ (s.cond .c ↔ s.flagC = true)) ∧
  [Cond.nz, .z, .nc, .c].map Cond.code = [0, 1, 2, 3] ∧
  ∀ (s : State) (n h : Bool) (cc : Cond), (s.setFlags none (some n) (some h) none).cond cc = s.cond cc

/-- A byte read gives the present byte, and 0x00 when the memory answers absent, as do the opcode and operand fetches. Rests on 20_memory.md R52, R54, 30_encoding.md R87, R88, R95. The model's own: log 10. -/
def Obligations.ByteReadSubstitutesZero : Prop :=
  ∀ (s : State) (a : Word),
    (∀ b, s.mem.answer a = some b → s.readByte a = b) ∧ (s.mem.answer a = none → s.readByte a = 0x00) ∧
    (s.afterRead a).bus = s.bus ++ [.read a (s.mem.answer a)] ∧
    (s.cfg.opcodeSource = .fetch → fetchOpcode s = (s.mem.answer s.pc).getD 0x00) ∧
    (∀ mk, fetchOperands (.imm8 mk) s = mk ((s.mem.answer (s.pc + 1)).getD 0x00)) ∧
    (∀ mk, fetchOperands (.imm16 mk) s = mk (wordOf
      (((s.mem.afterRead (s.pc + 1)).answer (s.pc + 1 + 1)).getD 0x00) ((s.mem.answer (s.pc + 1)).getD 0x00)))

/-- An accepted write is read back, a rejected one changes nothing, other bytes stay. Rests on 20_memory.md R53, R56, R64, R70. The model's own: log 3, 5. -/
def Obligations.ReadAfterWrite : Prop :=
  ∀ (m : Memory) (a b : Word) (v : Byte), m.wf = true →
    (m.store a v).byteAt b = (if m.backingAt a = .ram ∧ b = a then v else m.byteAt b) ∧
    (m.store a v).map = m.map ∧ (m.accepts a v = false → m.store a v = m) ∧
    (m.backingAt a = .ram → m.accepts a v = true) ∧
    (m.backingAt a = .rom ∨ m.backingAt a = .unmapped → m.accepts a v = false ∧ m.store a v = m) ∧
    (m.backingAt b = .ram ∨ m.backingAt b = .rom → m.answer b = some (m.byteAt b)) ∧
    (m.backingAt b = .unmapped → m.answer b = none)

/-- A word written to RAM reads back; its low byte is at the lower address, wrapping at 0xFFFF. Rests on 20_memory.md R55, R57, R58, R59. The model's own: log 3. -/
def Obligations.WordAccessLittleEndian : Prop :=
  ∀ (s : State) (a v : Word), s.mem.wf = true → s.mem.backingAt a = .ram → s.mem.backingAt (a + 1) = .ram →
    (s.writeWord a v).readByte a = lo8 v ∧ (s.writeWord a v).readByte (a + 1) = hi8 v ∧
    (s.writeWord a v).readWord a = v ∧
    ∀ b, b ≠ a → b ≠ a + 1 → (s.writeWord a v).mem.byteAt b = s.mem.byteAt b

/-- A byte stored to RAM is the opcode the next fetch at that address reads. Rests on 20_memory.md R67, 70_reset_and_hazards.md R339. The model's own: log 3. -/
def Obligations.StoreIsSeenByFetch : Prop :=
  ∀ (s : State) (a : Word) (v : Byte), s.mem.wf = true → s.mem.backingAt a = .ram →
    s.cfg.opcodeSource = .fetch →
    fetchOpcode ((s.writeByte a v).setPc a) = v ∧
    fetchInstr (((s.writeByte a v).setPc a).beginStep) =
      fetchOperands (form v) (afterOpcode (((s.writeByte a v).setPc a).beginStep))

/-- The invariant holds at reset. Rests on 10_state.md R24, R32, R36, 60_exceptions.md R300. The model's own: log 3, 4. -/
def Obligations.InvariantHoldsAtReset : Prop :=
  State.reset.inv = true

/-- Every step keeps: F[3:0] = 0, cycles a multiple of 4, faults consistent, memory canonical. Rests on 10_state.md R24, R26, R27, R32, 60_exceptions.md R300. The model's own: log 3. -/
def Obligations.InvariantKeptByStep : Prop :=
  ∀ s t : State, s.inv = true → step s = .next t → t.inv = true

/-- No step ends in a fault or a refusal of the host, whatever the state. Rests on 60_exceptions.md R305, R306, 30_encoding.md R97. The model's own: log 2. -/
def Obligations.EveryStepAnswersANextState : Prop :=
  (∀ s : State, ∃ t, step s = .next t) ∧ ∀ (i : Instr) (s : State), ∃ t, exec i s = .next t

/-- Only HALT, STOP, the illegal opcodes and 0xCB change the mode. Rests on 60_exceptions.md R300, R306, 10_state.md R31. -/
def Obligations.ModeChangesOnlyByFourCauses : Prop :=
  ∀ (i : Instr) (s : State), ∃ t, exec i s = .next t ∧
    t.mode = if i.illegal then .faulted .illegalOpcode i.opcode
      else if i.notImplemented then .faulted .notImplemented 0xCB
      else if i = .halt then .halted
      else if i.opcode = 0x10 then .stopped
      else s.mode

/-- Every instruction adds exactly its cost, which depends on the opcode and condition alone. States R98, R341. -/
def Obligations.CyclesGrowByTheCost : Prop :=
  ∀ (i : Instr) (s : State), ∃ t, exec i s = .next t ∧ t.cycles = s.cycles + cost i s ∧ cost i s % 4 = 0

/-- Outside the control transfers PC moves by the length of the encoding; a fault leaves it. Rests on 10_state.md R30, 30_encoding.md R96, 60_exceptions.md R301, R302. -/
def Obligations.PcAdvancesByTheLength : Prop :=
  ∀ (i : Instr) (s : State), writesPc i = false →
    ∃ t, exec i s = .next t ∧
      t.pc = if i.wellFormed then s.pc + BitVec.ofNat 16 (encode i).length else s.pc

/-- No instruction changes a register outside its destinations. Rests on 10_state.md R23. -/
def Obligations.RegisterFrame : Prop :=
  ∀ (i : Instr) (s : State) (r : Reg8), ∃ t, exec i s = .next t ∧
    (r ∉ dest i → t.reg r = s.reg r) ∧ (writesSp i = false → t.sp = s.sp)

/-- No instruction changes a flag its rule does not list. States R28. -/
def Obligations.FlagFrame : Prop :=
  ∀ (i : Instr) (s : State), ∃ t, exec i s = .next t ∧
    ((flagsWritten i).1 = false → t.flagZ = s.flagZ) ∧ ((flagsWritten i).2.1 = false → t.flagN = s.flagN) ∧
    ((flagsWritten i).2.2.1 = false → t.flagH = s.flagH) ∧
    ((flagsWritten i).2.2.2 = false → t.flagC = s.flagC)

/-- No instruction changes a stored byte outside the addresses it stores to. Rests on 20_memory.md R54, R56, R57, R61. The model's own: log 3, 5, 7, 8, 9. -/
def Obligations.MemoryFrame : Prop :=
  ∀ (i : Instr) (s : State) (a : Word), ∃ t, exec i s = .next t ∧
    (a ∉ storedAt i s → t.mem.byteAt a = s.mem.byteAt a) ∧
    (a ∉ storedAt i s → s.mem.backingAt a ≠ .device → t.readByte a = s.readByte a) ∧
    t.mem.map = s.mem.map ∧ t.cfg = s.cfg ∧ t.opcodeIn = s.opcodeIn

/-- An instruction sends exactly its data requests, reads before writes, at most two of each. Rests on 20_memory.md R60, R61, R69. The model's own: log 10. -/
def Obligations.DataRequestsInOrder : Prop :=
  ∀ (i : Instr) (s : State), ∃ t new, exec i s = .next t ∧ t.bus = s.bus ++ new ∧
    new.map target = (readAt i s).map (fun a => (false, a)) ++ (storedAt i s).map (fun a => (true, a)) ∧
    (readAt i s).length ≤ 2 ∧ (storedAt i s).length ≤ 2

/-- A running step sends opcode, operands, data reads and data writes, in this order and no others. Rests on 20_memory.md R69, 30_encoding.md R95. The model's own: log 10. -/
def Obligations.StepRequestsInOrder : Prop :=
  ∀ s : State, s.mode = .running →
    let i := fetchInstr s.beginStep
    let s' := afterFetch s.beginStep
    ∃ t, step s = .next t ∧
      t.bus.map target = fetchTargets (encode i).length s ++
        ((readAt i s').map (fun a => (false, a)) ++ (storedAt i s').map (fun a => (true, a)))

/-- Two memories that answer every read alike lead to the same registers, whatever they accept. Rests on 20_memory.md R53, R61, R69. The model's own: log 3, 5, 10. -/
def Obligations.WriteAnswersAreInvisible : Prop :=
  ∀ (i : Instr) (s : State) (m : Memory),
    (∀ a, (m.backingAt a = .device ↔ s.mem.backingAt a = .device) ∧
      (s.mem.backingAt a = .device → m.device = s.mem.device) ∧ m.answer a = s.mem.answer a) →
    ∃ t u, exec i s = .next t ∧ exec i { s with mem := m } = .next u ∧
      u = { t with mem := u.mem, bus := u.bus } ∧ u.bus.map target = t.bus.map target

/-- PUSH then POP through RAM moves the pair and restores SP; into AF without the low nibble. Rests on 45_control.md R231, R232, R244, R245, R246. The model's own: log 3. -/
def Obligations.PushThenPopRestores : Prop :=
  ∀ (s : State) (p q : StackPair), s.mem.wf = true →
    s.mem.backingAt (s.sp - 2) = .ram → s.mem.backingAt (s.sp - 2 + 1) = .ram →
    ∃ t u, exec (.push p) s = .next t ∧ exec (.pop q) t = .next u ∧ u.sp = s.sp ∧
      u.stackPair q = (if q = .af then s.stackPair p &&& 0xFFF0 else s.stackPair p)

/-- RET after CALL or RST through RAM comes back to the next instruction with SP restored. Rests on 45_control.md R231, R232, R238, R240, R243. The model's own: log 3. -/
def Obligations.CallThenReturnComesBack : Prop :=
  ∀ (s : State) (a : Word) (y : BitVec 3), s.mem.wf = true →
    s.mem.backingAt (s.sp - 2) = .ram → s.mem.backingAt (s.sp - 2 + 1) = .ram →
    (∃ t u, exec (.callA16 a) s = .next t ∧ exec .ret t = .next u ∧
      u = { done 3 40 s with mem := u.mem, bus := u.bus }) ∧
    (∃ t u, exec (.rst y) s = .next t ∧ exec .ret t = .next u ∧
      u = { done 1 32 s with mem := u.mem, bus := u.bus })

/-- ADC then DAA adds two-digit decimal numbers exactly, with the decimal carry. Rests on 41_alu8.md R153 (corner cases), R120, R127. -/
def Obligations.DecimalAddition : Prop :=
  ∀ (s : State) (v : Byte), isBcd s.a = true → isBcd v = true →
    ∃ t u, exec (.aluImm .adc v) s = .next t ∧ exec .daa t = .next u ∧ isBcd u.a = true ∧
      bcdValue u.a = (bcdValue s.a + bcdValue v + s.flagC.toNat) % 100 ∧
      u.flagC = decide (100 ≤ bcdValue s.a + bcdValue v + s.flagC.toNat)

/-- A device answers, accepts and changes by free functions of its state, the address and the byte written. Rests on 20_memory.md R51, R52, R53, R61. The model's own: log 3, 5. -/
def Obligations.DeviceAnswersFollowItsState : Prop :=
  ∀ (m : Memory) (a b : Word) (v : Byte), m.backingAt a = .device →
    m.answer a = Config.deviceRead m.device a ∧
    m.afterRead a = { m with device := Config.deviceAfterRead m.device a } ∧
    m.accepts a v = Config.deviceAccepts m.device a v ∧
    (m.store a v).device =
      (if Config.deviceAccepts m.device a v then Config.deviceAfterWrite m.device a v else m.device) ∧
    (m.backingAt b = .device → (m.store a v).answer b = Config.deviceRead (m.store a v).device b) ∧
    (m.backingAt b ≠ .device → (m.store b v).device = m.device ∧ m.afterRead b = m)
end

