-- ==== Sys2Proof/Laws/State.lean ====
section
/-! SUPPORT. One lemma per field per update of the state, so that no proof unfolds a record update. -/

namespace Sys2Proof.Machine

open Sys2Proof

-- setA
@[simp] theorem State.setA_a (v : Byte) (s : State) : (s.setA v).a = v := rfl
@[simp] theorem State.setA_f (v : Byte) (s : State) : (s.setA v).f = s.f := rfl
@[simp] theorem State.setA_b (v : Byte) (s : State) : (s.setA v).b = s.b := rfl
@[simp] theorem State.setA_c (v : Byte) (s : State) : (s.setA v).c = s.c := rfl
@[simp] theorem State.setA_d (v : Byte) (s : State) : (s.setA v).d = s.d := rfl
@[simp] theorem State.setA_e (v : Byte) (s : State) : (s.setA v).e = s.e := rfl
@[simp] theorem State.setA_h (v : Byte) (s : State) : (s.setA v).h = s.h := rfl
@[simp] theorem State.setA_l (v : Byte) (s : State) : (s.setA v).l = s.l := rfl
@[simp] theorem State.setA_sp (v : Byte) (s : State) : (s.setA v).sp = s.sp := rfl
@[simp] theorem State.setA_pc (v : Byte) (s : State) : (s.setA v).pc = s.pc := rfl
@[simp] theorem State.setA_cycles (v : Byte) (s : State) : (s.setA v).cycles = s.cycles := rfl
@[simp] theorem State.setA_mode (v : Byte) (s : State) : (s.setA v).mode = s.mode := rfl
@[simp] theorem State.setA_mem (v : Byte) (s : State) : (s.setA v).mem = s.mem := rfl
@[simp] theorem State.setA_cfg (v : Byte) (s : State) : (s.setA v).cfg = s.cfg := rfl
@[simp] theorem State.setA_opcodeIn (v : Byte) (s : State) : (s.setA v).opcodeIn = s.opcodeIn := rfl
@[simp] theorem State.setA_bus (v : Byte) (s : State) : (s.setA v).bus = s.bus := rfl

-- setSp
@[simp] theorem State.setSp_a (v : Word) (s : State) : (s.setSp v).a = s.a := rfl
@[simp] theorem State.setSp_f (v : Word) (s : State) : (s.setSp v).f = s.f := rfl
@[simp] theorem State.setSp_b (v : Word) (s : State) : (s.setSp v).b = s.b := rfl
@[simp] theorem State.setSp_c (v : Word) (s : State) : (s.setSp v).c = s.c := rfl
@[simp] theorem State.setSp_d (v : Word) (s : State) : (s.setSp v).d = s.d := rfl
@[simp] theorem State.setSp_e (v : Word) (s : State) : (s.setSp v).e = s.e := rfl
@[simp] theorem State.setSp_h (v : Word) (s : State) : (s.setSp v).h = s.h := rfl
@[simp] theorem State.setSp_l (v : Word) (s : State) : (s.setSp v).l = s.l := rfl
@[simp] theorem State.setSp_sp (v : Word) (s : State) : (s.setSp v).sp = v := rfl
@[simp] theorem State.setSp_pc (v : Word) (s : State) : (s.setSp v).pc = s.pc := rfl
@[simp] theorem State.setSp_cycles (v : Word) (s : State) : (s.setSp v).cycles = s.cycles := rfl
@[simp] theorem State.setSp_mode (v : Word) (s : State) : (s.setSp v).mode = s.mode := rfl
@[simp] theorem State.setSp_mem (v : Word) (s : State) : (s.setSp v).mem = s.mem := rfl
@[simp] theorem State.setSp_cfg (v : Word) (s : State) : (s.setSp v).cfg = s.cfg := rfl
@[simp] theorem State.setSp_opcodeIn (v : Word) (s : State) : (s.setSp v).opcodeIn = s.opcodeIn := rfl
@[simp] theorem State.setSp_bus (v : Word) (s : State) : (s.setSp v).bus = s.bus := rfl

-- setPc
@[simp] theorem State.setPc_a (v : Word) (s : State) : (s.setPc v).a = s.a := rfl
@[simp] theorem State.setPc_f (v : Word) (s : State) : (s.setPc v).f = s.f := rfl
@[simp] theorem State.setPc_b (v : Word) (s : State) : (s.setPc v).b = s.b := rfl
@[simp] theorem State.setPc_c (v : Word) (s : State) : (s.setPc v).c = s.c := rfl
@[simp] theorem State.setPc_d (v : Word) (s : State) : (s.setPc v).d = s.d := rfl
@[simp] theorem State.setPc_e (v : Word) (s : State) : (s.setPc v).e = s.e := rfl
@[simp] theorem State.setPc_h (v : Word) (s : State) : (s.setPc v).h = s.h := rfl
@[simp] theorem State.setPc_l (v : Word) (s : State) : (s.setPc v).l = s.l := rfl
@[simp] theorem State.setPc_sp (v : Word) (s : State) : (s.setPc v).sp = s.sp := rfl
@[simp] theorem State.setPc_pc (v : Word) (s : State) : (s.setPc v).pc = v := rfl
@[simp] theorem State.setPc_cycles (v : Word) (s : State) : (s.setPc v).cycles = s.cycles := rfl
@[simp] theorem State.setPc_mode (v : Word) (s : State) : (s.setPc v).mode = s.mode := rfl
@[simp] theorem State.setPc_mem (v : Word) (s : State) : (s.setPc v).mem = s.mem := rfl
@[simp] theorem State.setPc_cfg (v : Word) (s : State) : (s.setPc v).cfg = s.cfg := rfl
@[simp] theorem State.setPc_opcodeIn (v : Word) (s : State) : (s.setPc v).opcodeIn = s.opcodeIn := rfl
@[simp] theorem State.setPc_bus (v : Word) (s : State) : (s.setPc v).bus = s.bus := rfl

-- setAf
@[simp] theorem State.setAf_a (v : Word) (s : State) : (s.setAf v).a = hi8 v := rfl
@[simp] theorem State.setAf_f (v : Word) (s : State) : (s.setAf v).f = maskF (lo8 v) := rfl
@[simp] theorem State.setAf_b (v : Word) (s : State) : (s.setAf v).b = s.b := rfl
@[simp] theorem State.setAf_c (v : Word) (s : State) : (s.setAf v).c = s.c := rfl
@[simp] theorem State.setAf_d (v : Word) (s : State) : (s.setAf v).d = s.d := rfl
@[simp] theorem State.setAf_e (v : Word) (s : State) : (s.setAf v).e = s.e := rfl
@[simp] theorem State.setAf_h (v : Word) (s : State) : (s.setAf v).h = s.h := rfl
@[simp] theorem State.setAf_l (v : Word) (s : State) : (s.setAf v).l = s.l := rfl
@[simp] theorem State.setAf_sp (v : Word) (s : State) : (s.setAf v).sp = s.sp := rfl
@[simp] theorem State.setAf_pc (v : Word) (s : State) : (s.setAf v).pc = s.pc := rfl
@[simp] theorem State.setAf_cycles (v : Word) (s : State) : (s.setAf v).cycles = s.cycles := rfl
@[simp] theorem State.setAf_mode (v : Word) (s : State) : (s.setAf v).mode = s.mode := rfl
@[simp] theorem State.setAf_mem (v : Word) (s : State) : (s.setAf v).mem = s.mem := rfl
@[simp] theorem State.setAf_cfg (v : Word) (s : State) : (s.setAf v).cfg = s.cfg := rfl
@[simp] theorem State.setAf_opcodeIn (v : Word) (s : State) : (s.setAf v).opcodeIn = s.opcodeIn := rfl
@[simp] theorem State.setAf_bus (v : Word) (s : State) : (s.setAf v).bus = s.bus := rfl

-- setBc
@[simp] theorem State.setBc_a (v : Word) (s : State) : (s.setBc v).a = s.a := rfl
@[simp] theorem State.setBc_f (v : Word) (s : State) : (s.setBc v).f = s.f := rfl
@[simp] theorem State.setBc_b (v : Word) (s : State) : (s.setBc v).b = hi8 v := rfl
@[simp] theorem State.setBc_c (v : Word) (s : State) : (s.setBc v).c = lo8 v := rfl
@[simp] theorem State.setBc_d (v : Word) (s : State) : (s.setBc v).d = s.d := rfl
@[simp] theorem State.setBc_e (v : Word) (s : State) : (s.setBc v).e = s.e := rfl
@[simp] theorem State.setBc_h (v : Word) (s : State) : (s.setBc v).h = s.h := rfl
@[simp] theorem State.setBc_l (v : Word) (s : State) : (s.setBc v).l = s.l := rfl
@[simp] theorem State.setBc_sp (v : Word) (s : State) : (s.setBc v).sp = s.sp := rfl
@[simp] theorem State.setBc_pc (v : Word) (s : State) : (s.setBc v).pc = s.pc := rfl
@[simp] theorem State.setBc_cycles (v : Word) (s : State) : (s.setBc v).cycles = s.cycles := rfl
@[simp] theorem State.setBc_mode (v : Word) (s : State) : (s.setBc v).mode = s.mode := rfl
@[simp] theorem State.setBc_mem (v : Word) (s : State) : (s.setBc v).mem = s.mem := rfl
@[simp] theorem State.setBc_cfg (v : Word) (s : State) : (s.setBc v).cfg = s.cfg := rfl
@[simp] theorem State.setBc_opcodeIn (v : Word) (s : State) : (s.setBc v).opcodeIn = s.opcodeIn := rfl
@[simp] theorem State.setBc_bus (v : Word) (s : State) : (s.setBc v).bus = s.bus := rfl

-- setDe
@[simp] theorem State.setDe_a (v : Word) (s : State) : (s.setDe v).a = s.a := rfl
@[simp] theorem State.setDe_f (v : Word) (s : State) : (s.setDe v).f = s.f := rfl
@[simp] theorem State.setDe_b (v : Word) (s : State) : (s.setDe v).b = s.b := rfl
@[simp] theorem State.setDe_c (v : Word) (s : State) : (s.setDe v).c = s.c := rfl
@[simp] theorem State.setDe_d (v : Word) (s : State) : (s.setDe v).d = hi8 v := rfl
@[simp] theorem State.setDe_e (v : Word) (s : State) : (s.setDe v).e = lo8 v := rfl
@[simp] theorem State.setDe_h (v : Word) (s : State) : (s.setDe v).h = s.h := rfl
@[simp] theorem State.setDe_l (v : Word) (s : State) : (s.setDe v).l = s.l := rfl
@[simp] theorem State.setDe_sp (v : Word) (s : State) : (s.setDe v).sp = s.sp := rfl
@[simp] theorem State.setDe_pc (v : Word) (s : State) : (s.setDe v).pc = s.pc := rfl
@[simp] theorem State.setDe_cycles (v : Word) (s : State) : (s.setDe v).cycles = s.cycles := rfl
@[simp] theorem State.setDe_mode (v : Word) (s : State) : (s.setDe v).mode = s.mode := rfl
@[simp] theorem State.setDe_mem (v : Word) (s : State) : (s.setDe v).mem = s.mem := rfl
@[simp] theorem State.setDe_cfg (v : Word) (s : State) : (s.setDe v).cfg = s.cfg := rfl
@[simp] theorem State.setDe_opcodeIn (v : Word) (s : State) : (s.setDe v).opcodeIn = s.opcodeIn := rfl
@[simp] theorem State.setDe_bus (v : Word) (s : State) : (s.setDe v).bus = s.bus := rfl

-- setHl
@[simp] theorem State.setHl_a (v : Word) (s : State) : (s.setHl v).a = s.a := rfl
@[simp] theorem State.setHl_f (v : Word) (s : State) : (s.setHl v).f = s.f := rfl
@[simp] theorem State.setHl_b (v : Word) (s : State) : (s.setHl v).b = s.b := rfl
@[simp] theorem State.setHl_c (v : Word) (s : State) : (s.setHl v).c = s.c := rfl
@[simp] theorem State.setHl_d (v : Word) (s : State) : (s.setHl v).d = s.d := rfl
@[simp] theorem State.setHl_e (v : Word) (s : State) : (s.setHl v).e = s.e := rfl
@[simp] theorem State.setHl_h (v : Word) (s : State) : (s.setHl v).h = hi8 v := rfl
@[simp] theorem State.setHl_l (v : Word) (s : State) : (s.setHl v).l = lo8 v := rfl
@[simp] theorem State.setHl_sp (v : Word) (s : State) : (s.setHl v).sp = s.sp := rfl
@[simp] theorem State.setHl_pc (v : Word) (s : State) : (s.setHl v).pc = s.pc := rfl
@[simp] theorem State.setHl_cycles (v : Word) (s : State) : (s.setHl v).cycles = s.cycles := rfl
@[simp] theorem State.setHl_mode (v : Word) (s : State) : (s.setHl v).mode = s.mode := rfl
@[simp] theorem State.setHl_mem (v : Word) (s : State) : (s.setHl v).mem = s.mem := rfl
@[simp] theorem State.setHl_cfg (v : Word) (s : State) : (s.setHl v).cfg = s.cfg := rfl
@[simp] theorem State.setHl_opcodeIn (v : Word) (s : State) : (s.setHl v).opcodeIn = s.opcodeIn := rfl
@[simp] theorem State.setHl_bus (v : Word) (s : State) : (s.setHl v).bus = s.bus := rfl

-- advance
@[simp] theorem State.advance_a (n : Nat) (s : State) : (s.advance n).a = s.a := rfl
@[simp] theorem State.advance_f (n : Nat) (s : State) : (s.advance n).f = s.f := rfl
@[simp] theorem State.advance_b (n : Nat) (s : State) : (s.advance n).b = s.b := rfl
@[simp] theorem State.advance_c (n : Nat) (s : State) : (s.advance n).c = s.c := rfl
@[simp] theorem State.advance_d (n : Nat) (s : State) : (s.advance n).d = s.d := rfl
@[simp] theorem State.advance_e (n : Nat) (s : State) : (s.advance n).e = s.e := rfl
@[simp] theorem State.advance_h (n : Nat) (s : State) : (s.advance n).h = s.h := rfl
@[simp] theorem State.advance_l (n : Nat) (s : State) : (s.advance n).l = s.l := rfl
@[simp] theorem State.advance_sp (n : Nat) (s : State) : (s.advance n).sp = s.sp := rfl
@[simp] theorem State.advance_pc (n : Nat) (s : State) : (s.advance n).pc = s.pc + BitVec.ofNat 16 n := rfl
@[simp] theorem State.advance_cycles (n : Nat) (s : State) : (s.advance n).cycles = s.cycles := rfl
@[simp] theorem State.advance_mode (n : Nat) (s : State) : (s.advance n).mode = s.mode := rfl
@[simp] theorem State.advance_mem (n : Nat) (s : State) : (s.advance n).mem = s.mem := rfl
@[simp] theorem State.advance_cfg (n : Nat) (s : State) : (s.advance n).cfg = s.cfg := rfl
@[simp] theorem State.advance_opcodeIn (n : Nat) (s : State) : (s.advance n).opcodeIn = s.opcodeIn := rfl
@[simp] theorem State.advance_bus (n : Nat) (s : State) : (s.advance n).bus = s.bus := rfl

-- tick
@[simp] theorem State.tick_a (k : Nat) (s : State) : (s.tick k).a = s.a := rfl
@[simp] theorem State.tick_f (k : Nat) (s : State) : (s.tick k).f = s.f := rfl
@[simp] theorem State.tick_b (k : Nat) (s : State) : (s.tick k).b = s.b := rfl
@[simp] theorem State.tick_c (k : Nat) (s : State) : (s.tick k).c = s.c := rfl
@[simp] theorem State.tick_d (k : Nat) (s : State) : (s.tick k).d = s.d := rfl
@[simp] theorem State.tick_e (k : Nat) (s : State) : (s.tick k).e = s.e := rfl
@[simp] theorem State.tick_h (k : Nat) (s : State) : (s.tick k).h = s.h := rfl
@[simp] theorem State.tick_l (k : Nat) (s : State) : (s.tick k).l = s.l := rfl
@[simp] theorem State.tick_sp (k : Nat) (s : State) : (s.tick k).sp = s.sp := rfl
@[simp] theorem State.tick_pc (k : Nat) (s : State) : (s.tick k).pc = s.pc := rfl
@[simp] theorem State.tick_cycles (k : Nat) (s : State) : (s.tick k).cycles = s.cycles + k := rfl
@[simp] theorem State.tick_mode (k : Nat) (s : State) : (s.tick k).mode = s.mode := rfl
@[simp] theorem State.tick_mem (k : Nat) (s : State) : (s.tick k).mem = s.mem := rfl
@[simp] theorem State.tick_cfg (k : Nat) (s : State) : (s.tick k).cfg = s.cfg := rfl
@[simp] theorem State.tick_opcodeIn (k : Nat) (s : State) : (s.tick k).opcodeIn = s.opcodeIn := rfl
@[simp] theorem State.tick_bus (k : Nat) (s : State) : (s.tick k).bus = s.bus := rfl

-- afterRead
@[simp] theorem State.afterRead_a (x : Word) (s : State) : (s.afterRead x).a = s.a := rfl
@[simp] theorem State.afterRead_f (x : Word) (s : State) : (s.afterRead x).f = s.f := rfl
@[simp] theorem State.afterRead_b (x : Word) (s : State) : (s.afterRead x).b = s.b := rfl
@[simp] theorem State.afterRead_c (x : Word) (s : State) : (s.afterRead x).c = s.c := rfl
@[simp] theorem State.afterRead_d (x : Word) (s : State) : (s.afterRead x).d = s.d := rfl
@[simp] theorem State.afterRead_e (x : Word) (s : State) : (s.afterRead x).e = s.e := rfl
@[simp] theorem State.afterRead_h (x : Word) (s : State) : (s.afterRead x).h = s.h := rfl
@[simp] theorem State.afterRead_l (x : Word) (s : State) : (s.afterRead x).l = s.l := rfl
@[simp] theorem State.afterRead_sp (x : Word) (s : State) : (s.afterRead x).sp = s.sp := rfl
@[simp] theorem State.afterRead_pc (x : Word) (s : State) : (s.afterRead x).pc = s.pc := rfl
@[simp] theorem State.afterRead_cycles (x : Word) (s : State) : (s.afterRead x).cycles = s.cycles := rfl
@[simp] theorem State.afterRead_mode (x : Word) (s : State) : (s.afterRead x).mode = s.mode := rfl
@[simp] theorem State.afterRead_mem (x : Word) (s : State) : (s.afterRead x).mem = s.mem.afterRead x := rfl
@[simp] theorem State.afterRead_cfg (x : Word) (s : State) : (s.afterRead x).cfg = s.cfg := rfl
@[simp] theorem State.afterRead_opcodeIn (x : Word) (s : State) : (s.afterRead x).opcodeIn = s.opcodeIn := rfl
@[simp] theorem State.afterRead_bus (x : Word) (s : State) : (s.afterRead x).bus = s.bus ++ [.read x (s.mem.answer x)] := rfl

-- writeByte
@[simp] theorem State.writeByte_a (x : Word) (v : Byte) (s : State) : (s.writeByte x v).a = s.a := rfl
@[simp] theorem State.writeByte_f (x : Word) (v : Byte) (s : State) : (s.writeByte x v).f = s.f := rfl
@[simp] theorem State.writeByte_b (x : Word) (v : Byte) (s : State) : (s.writeByte x v).b = s.b := rfl
@[simp] theorem State.writeByte_c (x : Word) (v : Byte) (s : State) : (s.writeByte x v).c = s.c := rfl
@[simp] theorem State.writeByte_d (x : Word) (v : Byte) (s : State) : (s.writeByte x v).d = s.d := rfl
@[simp] theorem State.writeByte_e (x : Word) (v : Byte) (s : State) : (s.writeByte x v).e = s.e := rfl
@[simp] theorem State.writeByte_h (x : Word) (v : Byte) (s : State) : (s.writeByte x v).h = s.h := rfl
@[simp] theorem State.writeByte_l (x : Word) (v : Byte) (s : State) : (s.writeByte x v).l = s.l := rfl
@[simp] theorem State.writeByte_sp (x : Word) (v : Byte) (s : State) : (s.writeByte x v).sp = s.sp := rfl
@[simp] theorem State.writeByte_pc (x : Word) (v : Byte) (s : State) : (s.writeByte x v).pc = s.pc := rfl
@[simp] theorem State.writeByte_cycles (x : Word) (v : Byte) (s : State) : (s.writeByte x v).cycles = s.cycles := rfl
@[simp] theorem State.writeByte_mode (x : Word) (v : Byte) (s : State) : (s.writeByte x v).mode = s.mode := rfl
@[simp] theorem State.writeByte_mem (x : Word) (v : Byte) (s : State) : (s.writeByte x v).mem = s.mem.store x v := rfl
@[simp] theorem State.writeByte_cfg (x : Word) (v : Byte) (s : State) : (s.writeByte x v).cfg = s.cfg := rfl
@[simp] theorem State.writeByte_opcodeIn (x : Word) (v : Byte) (s : State) : (s.writeByte x v).opcodeIn = s.opcodeIn := rfl
@[simp] theorem State.writeByte_bus (x : Word) (v : Byte) (s : State) : (s.writeByte x v).bus = s.bus ++ [.write x v (s.mem.accepts x v)] := rfl

-- raise
@[simp] theorem State.raise_a (k : FaultCause) (op : Byte) (s : State) : (s.raise k op).a = s.a := rfl
@[simp] theorem State.raise_f (k : FaultCause) (op : Byte) (s : State) : (s.raise k op).f = s.f := rfl
@[simp] theorem State.raise_b (k : FaultCause) (op : Byte) (s : State) : (s.raise k op).b = s.b := rfl
@[simp] theorem State.raise_c (k : FaultCause) (op : Byte) (s : State) : (s.raise k op).c = s.c := rfl
@[simp] theorem State.raise_d (k : FaultCause) (op : Byte) (s : State) : (s.raise k op).d = s.d := rfl
@[simp] theorem State.raise_e (k : FaultCause) (op : Byte) (s : State) : (s.raise k op).e = s.e := rfl
@[simp] theorem State.raise_h (k : FaultCause) (op : Byte) (s : State) : (s.raise k op).h = s.h := rfl
@[simp] theorem State.raise_l (k : FaultCause) (op : Byte) (s : State) : (s.raise k op).l = s.l := rfl
@[simp] theorem State.raise_sp (k : FaultCause) (op : Byte) (s : State) : (s.raise k op).sp = s.sp := rfl
@[simp] theorem State.raise_pc (k : FaultCause) (op : Byte) (s : State) : (s.raise k op).pc = s.pc := rfl
@[simp] theorem State.raise_cycles (k : FaultCause) (op : Byte) (s : State) : (s.raise k op).cycles = s.cycles := rfl
@[simp] theorem State.raise_mode (k : FaultCause) (op : Byte) (s : State) : (s.raise k op).mode = .faulted k op := rfl
@[simp] theorem State.raise_mem (k : FaultCause) (op : Byte) (s : State) : (s.raise k op).mem = s.mem := rfl
@[simp] theorem State.raise_cfg (k : FaultCause) (op : Byte) (s : State) : (s.raise k op).cfg = s.cfg := rfl
@[simp] theorem State.raise_opcodeIn (k : FaultCause) (op : Byte) (s : State) : (s.raise k op).opcodeIn = s.opcodeIn := rfl
@[simp] theorem State.raise_bus (k : FaultCause) (op : Byte) (s : State) : (s.raise k op).bus = s.bus := rfl

-- haltFsm
@[simp] theorem State.haltFsm_a (m : Mode) (s : State) : (s.haltFsm m).a = s.a := rfl
@[simp] theorem State.haltFsm_f (m : Mode) (s : State) : (s.haltFsm m).f = s.f := rfl
@[simp] theorem State.haltFsm_b (m : Mode) (s : State) : (s.haltFsm m).b = s.b := rfl
@[simp] theorem State.haltFsm_c (m : Mode) (s : State) : (s.haltFsm m).c = s.c := rfl
@[simp] theorem State.haltFsm_d (m : Mode) (s : State) : (s.haltFsm m).d = s.d := rfl
@[simp] theorem State.haltFsm_e (m : Mode) (s : State) : (s.haltFsm m).e = s.e := rfl
@[simp] theorem State.haltFsm_h (m : Mode) (s : State) : (s.haltFsm m).h = s.h := rfl
@[simp] theorem State.haltFsm_l (m : Mode) (s : State) : (s.haltFsm m).l = s.l := rfl
@[simp] theorem State.haltFsm_sp (m : Mode) (s : State) : (s.haltFsm m).sp = s.sp := rfl
@[simp] theorem State.haltFsm_pc (m : Mode) (s : State) : (s.haltFsm m).pc = s.pc := rfl
@[simp] theorem State.haltFsm_cycles (m : Mode) (s : State) : (s.haltFsm m).cycles = s.cycles := rfl
@[simp] theorem State.haltFsm_mode (m : Mode) (s : State) : (s.haltFsm m).mode = m := rfl
@[simp] theorem State.haltFsm_mem (m : Mode) (s : State) : (s.haltFsm m).mem = s.mem := rfl
@[simp] theorem State.haltFsm_cfg (m : Mode) (s : State) : (s.haltFsm m).cfg = s.cfg := rfl
@[simp] theorem State.haltFsm_opcodeIn (m : Mode) (s : State) : (s.haltFsm m).opcodeIn = s.opcodeIn := rfl
@[simp] theorem State.haltFsm_bus (m : Mode) (s : State) : (s.haltFsm m).bus = s.bus := rfl

-- beginStep
@[simp] theorem State.beginStep_a (s : State) : (s.beginStep).a = s.a := rfl
@[simp] theorem State.beginStep_f (s : State) : (s.beginStep).f = s.f := rfl
@[simp] theorem State.beginStep_b (s : State) : (s.beginStep).b = s.b := rfl
@[simp] theorem State.beginStep_c (s : State) : (s.beginStep).c = s.c := rfl
@[simp] theorem State.beginStep_d (s : State) : (s.beginStep).d = s.d := rfl
@[simp] theorem State.beginStep_e (s : State) : (s.beginStep).e = s.e := rfl
@[simp] theorem State.beginStep_h (s : State) : (s.beginStep).h = s.h := rfl
@[simp] theorem State.beginStep_l (s : State) : (s.beginStep).l = s.l := rfl
@[simp] theorem State.beginStep_sp (s : State) : (s.beginStep).sp = s.sp := rfl
@[simp] theorem State.beginStep_pc (s : State) : (s.beginStep).pc = s.pc := rfl
@[simp] theorem State.beginStep_cycles (s : State) : (s.beginStep).cycles = s.cycles := rfl
@[simp] theorem State.beginStep_mode (s : State) : (s.beginStep).mode = s.mode := rfl
@[simp] theorem State.beginStep_mem (s : State) : (s.beginStep).mem = s.mem := rfl
@[simp] theorem State.beginStep_cfg (s : State) : (s.beginStep).cfg = s.cfg := rfl
@[simp] theorem State.beginStep_opcodeIn (s : State) : (s.beginStep).opcodeIn = s.opcodeIn := rfl
@[simp] theorem State.beginStep_bus (s : State) : (s.beginStep).bus = [] := rfl

-- setFlags
@[simp] theorem State.setFlags_a (z n h c : Option Bool) (s : State) : (s.setFlags z n h c).a = s.a := rfl
@[simp] theorem State.setFlags_f (z n h c : Option Bool) (s : State) : (s.setFlags z n h c).f = packFlags (z.getD s.flagZ) (n.getD s.flagN) (h.getD s.flagH) (c.getD s.flagC) := rfl
@[simp] theorem State.setFlags_b (z n h c : Option Bool) (s : State) : (s.setFlags z n h c).b = s.b := rfl
@[simp] theorem State.setFlags_c (z n h c : Option Bool) (s : State) : (s.setFlags z n h c).c = s.c := rfl
@[simp] theorem State.setFlags_d (z n h c : Option Bool) (s : State) : (s.setFlags z n h c).d = s.d := rfl
@[simp] theorem State.setFlags_e (z n h c : Option Bool) (s : State) : (s.setFlags z n h c).e = s.e := rfl
@[simp] theorem State.setFlags_h (z n h c : Option Bool) (s : State) : (s.setFlags z n h c).h = s.h := rfl
@[simp] theorem State.setFlags_l (z n h c : Option Bool) (s : State) : (s.setFlags z n h c).l = s.l := rfl
@[simp] theorem State.setFlags_sp (z n h c : Option Bool) (s : State) : (s.setFlags z n h c).sp = s.sp := rfl
@[simp] theorem State.setFlags_pc (z n h c : Option Bool) (s : State) : (s.setFlags z n h c).pc = s.pc := rfl
@[simp] theorem State.setFlags_cycles (z n h c : Option Bool) (s : State) : (s.setFlags z n h c).cycles = s.cycles := rfl
@[simp] theorem State.setFlags_mode (z n h c : Option Bool) (s : State) : (s.setFlags z n h c).mode = s.mode := rfl
@[simp] theorem State.setFlags_mem (z n h c : Option Bool) (s : State) : (s.setFlags z n h c).mem = s.mem := rfl
@[simp] theorem State.setFlags_cfg (z n h c : Option Bool) (s : State) : (s.setFlags z n h c).cfg = s.cfg := rfl
@[simp] theorem State.setFlags_opcodeIn (z n h c : Option Bool) (s : State) : (s.setFlags z n h c).opcodeIn = s.opcodeIn := rfl
@[simp] theorem State.setFlags_bus (z n h c : Option Bool) (s : State) : (s.setFlags z n h c).bus = s.bus := rfl

-- setReg: what no register choice touches
@[simp] theorem State.setReg_f (r : Reg8) (v : Byte) (s : State) : (s.setReg r v).f = s.f := by cases r <;> rfl
@[simp] theorem State.setReg_sp (r : Reg8) (v : Byte) (s : State) : (s.setReg r v).sp = s.sp := by cases r <;> rfl
@[simp] theorem State.setReg_pc (r : Reg8) (v : Byte) (s : State) : (s.setReg r v).pc = s.pc := by cases r <;> rfl
@[simp] theorem State.setReg_cycles (r : Reg8) (v : Byte) (s : State) : (s.setReg r v).cycles = s.cycles := by cases r <;> rfl
@[simp] theorem State.setReg_mode (r : Reg8) (v : Byte) (s : State) : (s.setReg r v).mode = s.mode := by cases r <;> rfl
@[simp] theorem State.setReg_mem (r : Reg8) (v : Byte) (s : State) : (s.setReg r v).mem = s.mem := by cases r <;> rfl
@[simp] theorem State.setReg_cfg (r : Reg8) (v : Byte) (s : State) : (s.setReg r v).cfg = s.cfg := by cases r <;> rfl
@[simp] theorem State.setReg_opcodeIn (r : Reg8) (v : Byte) (s : State) : (s.setReg r v).opcodeIn = s.opcodeIn := by cases r <;> rfl
@[simp] theorem State.setReg_bus (r : Reg8) (v : Byte) (s : State) : (s.setReg r v).bus = s.bus := by cases r <;> rfl

-- setPair: what no register choice touches
@[simp] theorem State.setPair_a (p : Pair) (v : Word) (s : State) : (s.setPair p v).a = s.a := by cases p <;> rfl
@[simp] theorem State.setPair_f (p : Pair) (v : Word) (s : State) : (s.setPair p v).f = s.f := by cases p <;> rfl
@[simp] theorem State.setPair_pc (p : Pair) (v : Word) (s : State) : (s.setPair p v).pc = s.pc := by cases p <;> rfl
@[simp] theorem State.setPair_cycles (p : Pair) (v : Word) (s : State) : (s.setPair p v).cycles = s.cycles := by cases p <;> rfl
@[simp] theorem State.setPair_mode (p : Pair) (v : Word) (s : State) : (s.setPair p v).mode = s.mode := by cases p <;> rfl
@[simp] theorem State.setPair_mem (p : Pair) (v : Word) (s : State) : (s.setPair p v).mem = s.mem := by cases p <;> rfl
@[simp] theorem State.setPair_cfg (p : Pair) (v : Word) (s : State) : (s.setPair p v).cfg = s.cfg := by cases p <;> rfl
@[simp] theorem State.setPair_opcodeIn (p : Pair) (v : Word) (s : State) : (s.setPair p v).opcodeIn = s.opcodeIn := by cases p <;> rfl
@[simp] theorem State.setPair_bus (p : Pair) (v : Word) (s : State) : (s.setPair p v).bus = s.bus := by cases p <;> rfl

-- setStackPair: what no register choice touches
@[simp] theorem State.setStackPair_sp (p : StackPair) (v : Word) (s : State) : (s.setStackPair p v).sp = s.sp := by cases p <;> rfl
@[simp] theorem State.setStackPair_pc (p : StackPair) (v : Word) (s : State) : (s.setStackPair p v).pc = s.pc := by cases p <;> rfl
@[simp] theorem State.setStackPair_cycles (p : StackPair) (v : Word) (s : State) : (s.setStackPair p v).cycles = s.cycles := by cases p <;> rfl
@[simp] theorem State.setStackPair_mode (p : StackPair) (v : Word) (s : State) : (s.setStackPair p v).mode = s.mode := by cases p <;> rfl
@[simp] theorem State.setStackPair_mem (p : StackPair) (v : Word) (s : State) : (s.setStackPair p v).mem = s.mem := by cases p <;> rfl
@[simp] theorem State.setStackPair_cfg (p : StackPair) (v : Word) (s : State) : (s.setStackPair p v).cfg = s.cfg := by cases p <;> rfl
@[simp] theorem State.setStackPair_opcodeIn (p : StackPair) (v : Word) (s : State) : (s.setStackPair p v).opcodeIn = s.opcodeIn := by cases p <;> rfl
@[simp] theorem State.setStackPair_bus (p : StackPair) (v : Word) (s : State) : (s.setStackPair p v).bus = s.bus := by cases p <;> rfl

/-- A register holds what was written to it, and every other register is unchanged. -/
theorem State.reg_setReg (r q : Reg8) (v : Byte) (s : State) :
    (s.setReg r v).reg q = if q = r then v else s.reg q := by
  cases r <;> cases q <;> rfl

/-- The flags read F alone. -/
theorem State.flags_of_f {s t : State} (h : s.f = t.f) :
    s.flagZ = t.flagZ ∧ s.flagN = t.flagN ∧ s.flagH = t.flagH ∧ s.flagC = t.flagC := by
  simp [State.flagZ, State.flagN, State.flagH, State.flagC, h]

end Sys2Proof.Machine
end

