-- ==== Sys2Proof/Laws/Bits.lean ====
section
/-! SUPPORT. Words and their bytes, the flag byte, and its four bits. -/

namespace Sys2Proof

/-- A word's bytes rebuild it (spec/00_scope.md R8). -/
@[simp] theorem wordOf_hi8_lo8 (w : Word) : wordOf (hi8 w) (lo8 w) = w := by
  apply BitVec.eq_of_toNat_eq
  have := w.isLt
  simp only [wordOf, hi8, lo8, BitVec.toNat_append, BitVec.extractLsb'_toNat, Nat.shiftRight_zero]
  rw [← Nat.shiftLeft_add_eq_or_of_lt (by omega), Nat.shiftLeft_eq, Nat.shiftRight_eq_div_pow]
  omega

@[simp] theorem hi8_wordOf (hi lo : Byte) : hi8 (wordOf hi lo) = hi := by
  apply BitVec.eq_of_toNat_eq
  have := hi.isLt; have := lo.isLt
  simp only [wordOf, hi8, BitVec.toNat_append, BitVec.extractLsb'_toNat]
  rw [← Nat.shiftLeft_add_eq_or_of_lt (by omega), Nat.shiftLeft_eq, Nat.shiftRight_eq_div_pow]
  omega

@[simp] theorem lo8_wordOf (hi lo : Byte) : lo8 (wordOf hi lo) = lo := by
  apply BitVec.eq_of_toNat_eq
  have := hi.isLt; have := lo.isLt
  simp only [wordOf, lo8, BitVec.toNat_append, BitVec.extractLsb'_toNat, Nat.shiftRight_zero]
  rw [← Nat.shiftLeft_add_eq_or_of_lt (by omega), Nat.shiftLeft_eq]
  omega

theorem wordOf_inj {h l h' l' : Byte} (e : wordOf h l = wordOf h' l') : h = h' ∧ l = l' :=
  ⟨by simpa using congrArg hi8 e, by simpa using congrArg lo8 e⟩

namespace Machine

theorem packFlags_bits (z n h c : Bool) :
    (packFlags z n h c).getLsbD 7 = z ∧ (packFlags z n h c).getLsbD 6 = n ∧
    (packFlags z n h c).getLsbD 5 = h ∧ (packFlags z n h c).getLsbD 4 = c := by
  revert z n h c; decide

@[simp] theorem packFlags_low (z n h c : Bool) : packFlags z n h c &&& 0x0F = 0 := by
  revert z n h c; decide

@[simp] theorem maskF_low (v : Byte) : maskF v &&& 0x0F = 0 := by
  simp [maskF, BitVec.and_assoc]

@[simp] theorem State.flagZ_setFlags (z n h c : Option Bool) (s : State) :
    (s.setFlags z n h c).flagZ = z.getD s.flagZ := (packFlags_bits ..).1

@[simp] theorem State.flagN_setFlags (z n h c : Option Bool) (s : State) :
    (s.setFlags z n h c).flagN = n.getD s.flagN := (packFlags_bits ..).2.1

@[simp] theorem State.flagH_setFlags (z n h c : Option Bool) (s : State) :
    (s.setFlags z n h c).flagH = h.getD s.flagH := (packFlags_bits ..).2.2.1

@[simp] theorem State.flagC_setFlags (z n h c : Option Bool) (s : State) :
    (s.setFlags z n h c).flagC = c.getD s.flagC := (packFlags_bits ..).2.2.2

end Machine

end Sys2Proof
end

