-- ==== Sys2Proof/Laws/Memory.lean ====
section
/-! SUPPORT. Every memory operation keeps the canonical form, and what a write does to a later read. -/

namespace Sys2Proof.Machine

open Sys2Proof

/-- A canonical list from `n` on is canonical from any lower bound. -/
theorem cellsWf_mono {n m : Nat} (h : m ≤ n) : ∀ {cs : List Host.Cell}, cellsWf n cs = true → cellsWf m cs = true
  | [], _ => rfl
  | (k, v) :: rest, w => by
    simp only [cellsWf, Bool.and_eq_true, decide_eq_true_eq] at w ⊢
    exact ⟨⟨⟨by omega, w.1.1.2⟩, w.1.2⟩, w.2⟩

/-- An address below a canonical list's bound is unlisted. -/
theorem lookupCell_below {a n : Nat} (h : a < n) :
    ∀ {cs : List Host.Cell}, cellsWf n cs = true → lookupCell a cs = unlistedByte
  | [], _ => rfl
  | (k, v) :: rest, w => by
    simp only [cellsWf, Bool.and_eq_true, decide_eq_true_eq] at w
    rw [lookupCell, if_neg (by omega)]
    exact lookupCell_below (n := k + 1) (by omega) w.2

/-- Putting a byte keeps the canonical form. -/
theorem cellsWf_putCell (a : Nat) (v : Byte) (ha : a < 65536) :
    ∀ {cs : List Host.Cell} {n : Nat}, n ≤ a → cellsWf n cs = true → cellsWf n (putCell a v cs) = true
  | [], n, hn, _ => by
    unfold putCell
    split
    · rfl
    · simp_all [cellsWf]
  | (k, x) :: rest, n, hn, w => by
    have w' := w
    simp only [cellsWf, Bool.and_eq_true, decide_eq_true_eq] at w'
    unfold putCell
    split
    · next hk =>
      simp only [cellsWf, Bool.and_eq_true, decide_eq_true_eq]
      exact ⟨w'.1, cellsWf_putCell a v ha (by omega) w'.2⟩
    · next hk =>
      split
      · next he =>
        split
        · exact cellsWf_mono (by omega) w'.2
        · next hv =>
          simp only [cellsWf, Bool.and_eq_true, decide_eq_true_eq]
          exact ⟨⟨⟨hn, ha⟩, hv⟩, he ▸ w'.2⟩
      · next he =>
        split
        · exact w
        · next hv =>
          simp only [cellsWf, Bool.and_eq_true, decide_eq_true_eq]
          exact ⟨⟨⟨hn, ha⟩, hv⟩, ⟨⟨⟨by omega, w'.1.1.2⟩, w'.1.2⟩, w'.2⟩⟩

/-- A put leaves every other address alone, in any list. -/
theorem lookupCell_putCell_ne {a b : Nat} (v : Byte) (h : b ≠ a) :
    ∀ cs : List Host.Cell, lookupCell b (putCell a v cs) = lookupCell b cs
  | [] => by
    unfold putCell
    split <;> simp [lookupCell, h]
  | (k, x) :: rest => by
    unfold putCell
    split
    · simp [lookupCell, lookupCell_putCell_ne v h rest]
    · split
      · next he => subst he; split <;> simp [lookupCell, h]
      · split <;> simp [lookupCell, h]

/-- A put byte is read back, in a canonical list. -/
theorem lookupCell_putCell_self (a : Nat) (v : Byte) :
    ∀ {cs : List Host.Cell} {n : Nat}, cellsWf n cs = true → lookupCell a (putCell a v cs) = v
  | [], n, _ => by
    unfold putCell
    split <;> simp_all [lookupCell]
  | (k, x) :: rest, n, w => by
    simp only [cellsWf, Bool.and_eq_true, decide_eq_true_eq] at w
    unfold putCell
    split
    · next hk =>
      rw [lookupCell, if_neg (by omega)]
      exact lookupCell_putCell_self a v w.2
    · next hk =>
      split
      · next he =>
        subst he
        split
        · next hv => rw [hv]; exact lookupCell_below (Nat.lt_succ_self a) w.2
        · simp [lookupCell]
      · next he =>
        split
        · next hv =>
          rw [hv, lookupCell, if_neg he]
          exact lookupCell_below (n := k + 1) (by omega) w.2
        · simp [lookupCell]

/-- A read request changes no stored byte and no region, and keeps the canonical form. -/
theorem Memory.afterRead_spec (m : Memory) (a : Word) :
    (m.afterRead a).cells = m.cells ∧ (m.afterRead a).map = m.map := by
  unfold Memory.afterRead
  split <;> exact ⟨rfl, rfl⟩

/-- Everything a write request can do: accepted, it stores the byte in RAM or moves the device's state;
rejected, it does nothing (spec/20_memory.md R53). -/
theorem Memory.store_spec (m : Memory) (a : Word) (v : Byte) :
    m.store a v =
      if m.accepts a v then
        if m.backingAt a = .ram then { m with cells := putCell a.toNat v m.cells }
        else { m with device := Config.deviceAfterWrite m.device a v }
      else m := by
  unfold Memory.store Memory.accepts
  cases m.backingAt a <;> simp

/-- A write request changes no region. -/
theorem Memory.store_map (m : Memory) (a : Word) (v : Byte) : (m.store a v).map = m.map := by
  rw [Memory.store_spec]
  split <;> try split
  all_goals rfl

theorem Memory.wf_afterRead {m : Memory} (a : Word) (h : m.wf = true) : (m.afterRead a).wf = true := by
  unfold Memory.wf at h ⊢
  rw [(m.afterRead_spec a).1]
  exact h

theorem Memory.wf_store {m : Memory} (a : Word) (v : Byte) (h : m.wf = true) : (m.store a v).wf = true := by
  rw [Memory.store_spec]
  split <;> try split
  · exact cellsWf_putCell a.toNat v a.isLt (Nat.zero_le _) h
  all_goals exact h

theorem Memory.wf_place {m : Memory} (a : Word) (v : Byte) (h : m.wf = true) : (m.place a v).wf = true := by
  unfold Memory.place
  split <;> exact cellsWf_putCell a.toNat v a.isLt (Nat.zero_le _) h

theorem Memory.wf_placeAll {m : Memory} (vs : List Byte) (h : m.wf = true) :
    ∀ a : Word, (m.placeAll a vs).wf = true := by
  induction vs generalizing m with
  | nil => intro _; exact h
  | cons v vs ih => intro a; exact ih (Memory.wf_place a v h) (a + 1)

/-- The reset memory is in canonical form. -/
theorem State.reset_mem_wf : State.reset.mem.wf = true := rfl

/-- The bytes of memory after a read request. -/
@[simp] theorem Memory.byteAt_afterRead (m : Memory) (a b : Word) : (m.afterRead a).byteAt b = m.byteAt b := by
  unfold Memory.byteAt
  rw [(m.afterRead_spec a).1]

/-- A write request leaves every other byte alone. -/
theorem Memory.byteAt_store_ne (m : Memory) {a b : Word} (v : Byte) (h : b ≠ a) :
    (m.store a v).byteAt b = m.byteAt b := by
  rw [Memory.store_spec]
  unfold Memory.byteAt
  split <;> try split
  · exact lookupCell_putCell_ne v (fun e => h (BitVec.eq_of_toNat_eq e)) m.cells
  all_goals rfl

end Sys2Proof.Machine
end

