-- ==== Sys2Proof/Laws/Exec.lean ====
section
/-! SUPPORT. exec on each family of instructions, and one lemma per shared operation saying everything it
can do: the state it leaves is the old one with the listed fields written. -/

namespace Sys2Proof.Machine

open Sys2Proof

-- exec on the families of Sys2Proof/Syntax.lean

theorem exec_ld (dst r : Reg8) (s : State) : exec (.ld dst r) s = .next (loadReg dst r s) := by
  cases dst <;> cases r <;> rfl
theorem exec_ldImm (dst : Reg8) (v : Byte) (s : State) : exec (.ldImm dst v) s = .next (loadImm dst v s) := by
  cases dst <;> rfl
theorem exec_ldFromHl (dst : Reg8) (s : State) : exec (.ldFromHl dst) s = .next (loadFrom 1 8 dst s.hl s) := by
  cases dst <;> rfl
theorem exec_ldToHl (r : Reg8) (s : State) : exec (.ldToHl r) s = .next (storeTo 1 8 s.hl (s.reg r) s) := by
  cases r <;> rfl
theorem exec_alu (op : AluOp) (r : Reg8) (s : State) : exec (.alu op r) s = .next (aluReg op r s) := by
  cases op <;> cases r <;> rfl
theorem exec_aluHl (op : AluOp) (s : State) : exec (.aluHl op) s = .next (aluMem op s) := by
  cases op <;> rfl
theorem exec_aluImm (op : AluOp) (v : Byte) (s : State) : exec (.aluImm op v) s = .next (aluByte op v s) := by
  cases op <;> rfl
theorem exec_inc (r : Reg8) (s : State) : exec (.inc r) s = .next (stepReg inc8 false r s) := by
  cases r <;> rfl
theorem exec_dec (r : Reg8) (s : State) : exec (.dec r) s = .next (stepReg dec8 true r s) := by
  cases r <;> rfl
theorem exec_ldPair (p : Pair) (w : Word) (s : State) : exec (.ldPair p w) s = .next (loadPair p w s) := by
  cases p <;> rfl
theorem exec_addHl (p : Pair) (s : State) : exec (.addHl p) s = .next (addToHl p s) := by
  cases p <;> rfl
theorem exec_incPair (p : Pair) (s : State) : exec (.incPair p) s = .next (incPairBy1 p s) := by
  cases p <;> rfl
theorem exec_decPair (p : Pair) (s : State) : exec (.decPair p) s = .next (decPairBy1 p s) := by
  cases p <;> rfl
theorem exec_push (p : StackPair) (s : State) : exec (.push p) s = .next (pushPair p s) := by
  cases p <;> rfl
theorem exec_pop (p : StackPair) (s : State) : exec (.pop p) s = .next (popPair p s) := by
  cases p <;> rfl
theorem exec_jrIf (cc : Cond) (e : Byte) (s : State) : exec (.jrIf cc e) s = .next (jumpRelIf cc e s) := by
  cases cc <;> rfl
theorem exec_jpIf (cc : Cond) (t : Word) (s : State) : exec (.jpIf cc t) s = .next (jumpAbsIf cc t s) := by
  cases cc <;> rfl
theorem exec_callIf (cc : Cond) (t : Word) (s : State) : exec (.callIf cc t) s = .next (callAbsIf cc t s) := by
  cases cc <;> rfl
theorem exec_retIf (cc : Cond) (s : State) : exec (.retIf cc) s = .next (returnIf cc s) := by
  cases cc <;> rfl

/-- RST by its field. -/
theorem exec_rst (y : BitVec 3) (s : State) : exec (.rst y) s = .next (restart y s) := by
  rcases y with ⟨⟨n, hn⟩⟩
  have : n < 8 := hn
  interval_cases n <;> rfl

-- the shared operations

theorem State.flagsOf_spec (r : Sum8) (n : Bool) (s : State) :
    s.flagsOf r n = { s with f := packFlags (decide (r.res = 0)) n r.h r.c } := rfl

theorem State.bitwise_spec (res : Byte) (h : Bool) (s : State) :
    s.bitwise res h = { s with a := res, f := packFlags (decide (res = 0)) false h false } := rfl

/-- An 8-bit ALU operation writes A and F and nothing else, and leaves F's low nibble 0. -/
theorem State.alu_spec (op : AluOp) (v : Byte) (s : State) :
    ∃ a f, f &&& 0x0F = 0 ∧ s.alu op v = { s with a := a, f := f } := by
  cases op <;> exact ⟨_, _, packFlags_low .., rfl⟩

/-- The compare writes no register but F. -/
theorem State.alu_cp_spec (v : Byte) (s : State) :
    ∃ f, f &&& 0x0F = 0 ∧ s.alu .cp v = { s with f := f } := ⟨_, packFlags_low .., rfl⟩

theorem aluReg_spec (op : AluOp) (r : Reg8) (s : State) :
    ∃ a f, f &&& 0x0F = 0 ∧
      aluReg op r s = { s with a := a, f := f, pc := s.pc + BitVec.ofNat 16 1, cycles := s.cycles + 4 } := by
  obtain ⟨a, f, h, e⟩ := (s.advance 1).alu_spec op (s.reg r)
  exact ⟨a, f, h, by rw [aluReg, e]; rfl⟩

theorem aluMem_spec (op : AluOp) (s : State) :
    ∃ a f, f &&& 0x0F = 0 ∧
      aluMem op s = { s.afterRead s.hl with
        a := a, f := f, pc := s.pc + BitVec.ofNat 16 1, cycles := s.cycles + 8 } := by
  obtain ⟨a, f, h, e⟩ := ((s.advance 1).afterRead s.hl).alu_spec op (s.readByte s.hl)
  exact ⟨a, f, h, by rw [aluMem, e]; rfl⟩

theorem aluByte_spec (op : AluOp) (v : Byte) (s : State) :
    ∃ a f, f &&& 0x0F = 0 ∧
      aluByte op v s = { s with a := a, f := f, pc := s.pc + BitVec.ofNat 16 2, cycles := s.cycles + 8 } := by
  obtain ⟨a, f, h, e⟩ := (s.advance 2).alu_spec op v
  exact ⟨a, f, h, by rw [aluByte, e]; rfl⟩

theorem stepReg_spec (sum : Byte → Sum8) (n : Bool) (r : Reg8) (s : State) :
    stepReg sum n r s = { s.setReg r (sum (s.reg r)).res with
      f := packFlags (decide ((sum (s.reg r)).res = 0)) n (sum (s.reg r)).h (sum (s.reg r)).c
      pc := s.pc + BitVec.ofNat 16 1, cycles := s.cycles + 4 } := by
  cases r <;> rfl

theorem stepMem_spec (sum : Byte → Sum8) (n : Bool) (s : State) :
    stepMem sum n s = { (s.afterRead s.hl).writeByte s.hl (sum (s.readByte s.hl)).res with
      f := packFlags (decide ((sum (s.readByte s.hl)).res = 0)) n (sum (s.readByte s.hl)).h
        (sum (s.readByte s.hl)).c
      pc := s.pc + BitVec.ofNat 16 1, cycles := s.cycles + 12 } := rfl

theorem loadReg_spec (dst r : Reg8) (s : State) :
    loadReg dst r s = { s.setReg dst (s.reg r) with
      pc := s.pc + BitVec.ofNat 16 1, cycles := s.cycles + 4 } := by
  cases dst <;> rfl

theorem loadImm_spec (dst : Reg8) (v : Byte) (s : State) :
    loadImm dst v s = { s.setReg dst v with pc := s.pc + BitVec.ofNat 16 2, cycles := s.cycles + 8 } := by
  cases dst <;> rfl

theorem loadFrom_spec (n k : Nat) (dst : Reg8) (x : Word) (s : State) :
    loadFrom n k dst x s = { (s.afterRead x).setReg dst (s.readByte x) with
      pc := s.pc + BitVec.ofNat 16 n, cycles := s.cycles + k } := by
  cases dst <;> rfl

theorem storeTo_spec (n k : Nat) (x : Word) (v : Byte) (s : State) :
    storeTo n k x v s = { s.writeByte x v with
      pc := s.pc + BitVec.ofNat 16 n, cycles := s.cycles + k } := rfl

theorem loadPair_spec (p : Pair) (w : Word) (s : State) :
    loadPair p w s = { s.setPair p w with pc := s.pc + BitVec.ofNat 16 3, cycles := s.cycles + 12 } := by
  cases p <;> rfl

theorem incPairBy1_spec (p : Pair) (s : State) :
    incPairBy1 p s = { s.setPair p (s.pair p + 1) with
      pc := s.pc + BitVec.ofNat 16 1, cycles := s.cycles + 8 } := by
  cases p <;> rfl

theorem decPairBy1_spec (p : Pair) (s : State) :
    decPairBy1 p s = { s.setPair p (s.pair p - 1) with
      pc := s.pc + BitVec.ofNat 16 1, cycles := s.cycles + 8 } := by
  cases p <;> rfl

theorem addToHl_spec (p : Pair) (s : State) :
    addToHl p s = { s with
      h := hi8 (add16 s.hl (s.pair p)), l := lo8 (add16 s.hl (s.pair p))
      f := packFlags s.flagZ false (add16Half s.hl (s.pair p)) (add16Carry s.hl (s.pair p))
      pc := s.pc + BitVec.ofNat 16 1, cycles := s.cycles + 8 } := rfl

/-- A push moves SP down by 2 and sends two write requests at the new SP. -/
theorem State.push16_spec (v : Word) (s : State) :
    s.push16 v = { s.writeWord (s.sp - 2) v with sp := s.sp - 2 } := rfl

/-- A pop sends two read requests at SP and moves SP up by 2. -/
theorem State.afterPop_spec (s : State) :
    s.afterPop = { s.afterReadWord s.sp with sp := s.sp + 2 } := rfl

theorem State.callTo_spec (t : Word) (s : State) :
    s.callTo t = { s.writeWord (s.sp - 2) s.pc with sp := s.sp - 2, pc := t } := rfl

theorem State.returnPop_spec (s : State) :
    s.returnPop = { s.afterReadWord s.sp with sp := s.sp + 2, pc := s.popValue } := rfl

/-- A word write sends its two requests low byte first and changes nothing but memory and the bus. -/
theorem State.writeWord_spec (x v : Word) (s : State) :
    s.writeWord x v = { s with
      mem := (s.mem.store x (lo8 v)).store (x + 1) (hi8 v)
      bus := s.bus ++ [.write x (lo8 v) (s.mem.accepts x (lo8 v))] ++
        [.write (x + 1) (hi8 v) ((s.mem.store x (lo8 v)).accepts (x + 1) (hi8 v))] } := rfl

/-- A word read sends its two requests low byte first and changes nothing but a device and the bus. -/
theorem State.afterReadWord_spec (x : Word) (s : State) :
    s.afterReadWord x = { s with
      mem := (s.mem.afterRead x).afterRead (x + 1)
      bus := s.bus ++ [.read x (s.mem.answer x)] ++ [.read (x + 1) ((s.mem.afterRead x).answer (x + 1))] } := rfl

/-- Taking an exception changes the mode alone (spec/60_exceptions.md R301 to R303). -/
theorem State.raise_spec (k : FaultCause) (op : Byte) (s : State) :
    s.raise k op = { s with mode := .faulted k op } := rfl

-- the remaining meanings, each as the old state with fields written

theorem complementA_spec (s : State) :
    complementA s = { s with
      a := ~~~s.a, f := packFlags s.flagZ true true s.flagC
      pc := s.pc + BitVec.ofNat 16 1, cycles := s.cycles + 4 } := rfl

theorem decimalAdjust_spec (s : State) :
    decimalAdjust s = { s with
      a := daaResult s.flagN s.flagH s.flagC s.a
      f := packFlags (decide (daaResult s.flagN s.flagH s.flagC s.a = 0)) s.flagN false
        (daaCarry s.flagN s.flagC s.a)
      pc := s.pc + BitVec.ofNat 16 1, cycles := s.cycles + 4 } := rfl

theorem carryOp_spec (c : Bool) (s : State) :
    carryOp c s = { s with
      f := packFlags s.flagZ false false c, pc := s.pc + BitVec.ofNat 16 1, cycles := s.cycles + 4 } := rfl

theorem rotateA_spec (res : Byte) (out : Bool) (s : State) :
    rotateA res out s = { s with
      a := res, f := packFlags false false false out
      pc := s.pc + BitVec.ofNat 16 1, cycles := s.cycles + 4 } := rfl

theorem addSpOffset_spec (e : Byte) (s : State) :
    addSpOffset e s = { s with
      sp := spPlus s.sp e, f := packFlags false false (spPlusHalf s.sp e) (spPlusCarry s.sp e)
      pc := s.pc + BitVec.ofNat 16 2, cycles := s.cycles + 16 } := rfl

theorem loadHlSpOffset_spec (e : Byte) (s : State) :
    loadHlSpOffset e s = { s with
      h := hi8 (spPlus s.sp e), l := lo8 (spPlus s.sp e)
      f := packFlags false false (spPlusHalf s.sp e) (spPlusCarry s.sp e)
      pc := s.pc + BitVec.ofNat 16 2, cycles := s.cycles + 16 } := rfl

theorem storeHlMove_spec (d : Word) (s : State) :
    storeHlMove d s = { s.writeByte s.hl s.a with
      h := hi8 (s.hl + d), l := lo8 (s.hl + d), pc := s.pc + BitVec.ofNat 16 1, cycles := s.cycles + 8 } := rfl

theorem loadHlMove_spec (d : Word) (s : State) :
    loadHlMove d s = { s.afterRead s.hl with
      a := s.readByte s.hl, h := hi8 (s.hl + d), l := lo8 (s.hl + d)
      pc := s.pc + BitVec.ofNat 16 1, cycles := s.cycles + 8 } := rfl

theorem widenAIntoBc_spec (s : State) :
    widenAIntoBc s = { s with
      b := hi8 (zext16 s.a), c := lo8 (zext16 s.a), pc := s.pc + BitVec.ofNat 16 1, cycles := s.cycles + 8 } := rfl

theorem storeSp_spec (t : Word) (s : State) :
    storeSp t s = { s.writeWord t s.sp with pc := s.pc + BitVec.ofNat 16 3, cycles := s.cycles + 20 } := rfl

theorem copyHlToSp_spec (s : State) :
    copyHlToSp s = { s with sp := s.hl, pc := s.pc + BitVec.ofNat 16 1, cycles := s.cycles + 8 } := rfl

theorem jumpRel_spec (e : Byte) (s : State) :
    jumpRel e s = { s with pc := s.pc + BitVec.ofNat 16 2 + sext16 e, cycles := s.cycles + 12 } := rfl

theorem jumpRelIf_spec (cc : Cond) (e : Byte) (s : State) :
    jumpRelIf cc e s = { s with
      pc := if s.cond cc then s.pc + BitVec.ofNat 16 2 + sext16 e else s.pc + BitVec.ofNat 16 2
      cycles := s.cycles + if s.cond cc then 12 else 8 } := by
  unfold jumpRelIf
  split <;> rfl

theorem jumpAbs_spec (t : Word) (s : State) :
    jumpAbs t s = { s with pc := t, cycles := s.cycles + 16 } := rfl

theorem jumpAbsIf_spec (cc : Cond) (t : Word) (s : State) :
    jumpAbsIf cc t s = { s with
      pc := if s.cond cc then t else s.pc + BitVec.ofNat 16 3
      cycles := s.cycles + if s.cond cc then 16 else 12 } := by
  unfold jumpAbsIf
  split <;> rfl

theorem jumpHl_spec (s : State) : jumpHl s = { s with pc := s.hl, cycles := s.cycles + 4 } := rfl

theorem callAbs_spec (t : Word) (s : State) :
    callAbs t s = { s.writeWord (s.sp - 2) (s.pc + BitVec.ofNat 16 3) with
      sp := s.sp - 2, pc := t, cycles := s.cycles + 24 } := by
  rw [callAbs, State.callTo_spec, State.writeWord_spec, State.writeWord_spec]
  rfl

theorem callAbsIf_spec (cc : Cond) (t : Word) (s : State) :
    callAbsIf cc t s =
      if s.cond cc then callAbs t s else { s with pc := s.pc + BitVec.ofNat 16 3, cycles := s.cycles + 12 } := rfl

@[simp] theorem State.popValue_advance (n : Nat) (s : State) : (s.advance n).popValue = s.popValue := rfl

theorem returnAlways_spec (s : State) :
    returnAlways s = { s.afterReadWord s.sp with
      sp := s.sp + 2, pc := s.popValue, cycles := s.cycles + 16 } := by
  rw [returnAlways, State.returnPop_spec, State.afterReadWord_spec, State.afterReadWord_spec, State.popValue_advance]
  rfl

theorem returnIf_spec (cc : Cond) (s : State) :
    returnIf cc s =
      if s.cond cc then
        { s.afterReadWord s.sp with sp := s.sp + 2, pc := s.popValue, cycles := s.cycles + 20 }
      else { s with pc := s.pc + BitVec.ofNat 16 1, cycles := s.cycles + 8 } := by
  unfold returnIf
  split
  · rw [State.returnPop_spec, State.afterReadWord_spec, State.afterReadWord_spec, State.popValue_advance]
    rfl
  · rfl

theorem restart_spec (y : BitVec 3) (s : State) :
    restart y s = { s.writeWord (s.sp - 2) (s.pc + BitVec.ofNat 16 1) with
      sp := s.sp - 2, pc := rstTarget y, cycles := s.cycles + 16 } := by
  rw [restart, State.callTo_spec, State.writeWord_spec, State.writeWord_spec]
  rfl

theorem pushPair_spec (p : StackPair) (s : State) :
    pushPair p s = { s.writeWord (s.sp - 2) (s.stackPair p) with
      sp := s.sp - 2, pc := s.pc + BitVec.ofNat 16 1, cycles := s.cycles + 16 } := by
  rw [pushPair, State.push16_spec, State.writeWord_spec, State.writeWord_spec]
  rfl

theorem popPair_spec (p : StackPair) (s : State) :
    popPair p s = { (s.afterReadWord s.sp).setStackPair p s.popValue with
      sp := s.sp + 2, pc := s.pc + BitVec.ofNat 16 1, cycles := s.cycles + 12 } := by
  rw [popPair, State.afterPop_spec, State.afterReadWord_spec, State.afterReadWord_spec]
  cases p <;> rfl

theorem idle_spec (s : State) :
    idle s = { s with pc := s.pc + BitVec.ofNat 16 1, cycles := s.cycles + 4 } := rfl

theorem stopIn_spec (n : Nat) (m : Mode) (s : State) :
    stopIn n m s = { s with mode := m, pc := s.pc + BitVec.ofNat 16 n, cycles := s.cycles + 4 } := rfl

-- the step

/-- A running step executes the fetched instruction from the state after its fetch. -/
theorem step_running (s : State) (h : s.mode = .running) :
    step s = exec (fetchInstr s.beginStep) (afterFetch s.beginStep) := by
  simp [step, dispatchStep, State.canStep, h]

/-- No step is taken in another mode. -/
theorem step_of_not_running (s : State) (h : s.mode ≠ .running) : step s = .next s := by
  simp [step, dispatchStep, State.canStep, h]

/-- One read request changes the bus and the device's state, and no stored byte and no region. -/
theorem State.afterRead_spec (x : Word) (s : State) :
    ∃ n, s.afterRead x = { s with
      mem := { s.mem with device := n }, bus := s.bus ++ [.read x (s.mem.answer x)] } := by
  cases hb : s.mem.backingAt x
  case device => exact ⟨Config.deviceAfterRead s.mem.device x, by simp [State.afterRead, Memory.afterRead, hb]⟩
  all_goals exact ⟨s.mem.device, by simp [State.afterRead, Memory.afterRead, hb]⟩

/-- A fetch changes the bus and the device's state, and no stored byte and no region. -/
theorem afterFetch_spec (s : State) :
    ∃ n bus, afterFetch s = { s with mem := { s.mem with device := n }, bus := bus } := by
  have hop : ∃ n bus, afterOpcode s = { s with mem := { s.mem with device := n }, bus := bus } := by
    unfold afterOpcode
    split
    · obtain ⟨n, e⟩ := s.afterRead_spec s.pc
      exact ⟨n, _, e⟩
    · exact ⟨s.mem.device, s.bus, rfl⟩
  obtain ⟨n, bus, e⟩ := hop
  unfold afterFetch afterOperands
  rw [e]
  split
  · exact ⟨n, bus, rfl⟩
  · obtain ⟨k, e'⟩ := State.afterRead_spec (s.pc + 1) { s with mem := { s.mem with device := n }, bus := bus }
    exact ⟨k, _, e'⟩
  · obtain ⟨k, e1⟩ := State.afterRead_spec (s.pc + 1) { s with mem := { s.mem with device := n }, bus := bus }
    unfold State.afterReadWord
    rw [e1]
    exact ⟨_, _, (State.afterRead_spec (s.pc + 1 + 1) _).choose_spec⟩

-- the invariant, taken apart

theorem State.inv_iff (s : State) :
    s.inv = true ↔ s.f &&& 0x0F = 0 ∧ s.cycles % 4 = 0 ∧ s.mode.consistent = true ∧ s.mem.wf = true := by
  simp [State.inv, and_assoc]

end Sys2Proof.Machine
end

