-- ==== Sys2Proof/Laws/PerInstr.lean ====
section
/-! SUPPORT. Per-instruction statements about the syntax: the opcode byte alone determines the length of
the encoding (spec/30_encoding.md R80, R99). -/

namespace Sys2Proof.Laws.EncodeLength

open Sys2Proof

/-- The encoding of an instruction is as long as the form of its opcode byte says. -/
def Statement (i : Instr) : Prop := (encode i).length = (form i.opcode).length

theorem ldBcD16 (w : Word) : Statement (.ldBcD16 w) :=
  show 3 = (form 0x01).length from rfl
theorem ldBD8 (v : Byte) : Statement (.ldBD8 v) :=
  show 2 = (form 0x06).length from rfl
theorem ldIndA16Sp (t : Word) : Statement (.ldIndA16Sp t) :=
  show 3 = (form 0x08).length from rfl
theorem ldCD8 (v : Byte) : Statement (.ldCD8 v) :=
  show 2 = (form 0x0E).length from rfl
theorem stop (pad : Byte) : Statement (.stop pad) :=
  show 2 = (form 0x10).length from rfl
theorem ldDeD16 (w : Word) : Statement (.ldDeD16 w) :=
  show 3 = (form 0x11).length from rfl
theorem ldDD8 (v : Byte) : Statement (.ldDD8 v) :=
  show 2 = (form 0x16).length from rfl
theorem jrR8 (e : Byte) : Statement (.jrR8 e) :=
  show 2 = (form 0x18).length from rfl
theorem ldED8 (v : Byte) : Statement (.ldED8 v) :=
  show 2 = (form 0x1E).length from rfl
theorem jrNzR8 (e : Byte) : Statement (.jrNzR8 e) :=
  show 2 = (form 0x20).length from rfl
theorem ldHlD16 (w : Word) : Statement (.ldHlD16 w) :=
  show 3 = (form 0x21).length from rfl
theorem ldHD8 (v : Byte) : Statement (.ldHD8 v) :=
  show 2 = (form 0x26).length from rfl
theorem jrZR8 (e : Byte) : Statement (.jrZR8 e) :=
  show 2 = (form 0x28).length from rfl
theorem ldLD8 (v : Byte) : Statement (.ldLD8 v) :=
  show 2 = (form 0x2E).length from rfl
theorem jrNcR8 (e : Byte) : Statement (.jrNcR8 e) :=
  show 2 = (form 0x30).length from rfl
theorem ldSpD16 (w : Word) : Statement (.ldSpD16 w) :=
  show 3 = (form 0x31).length from rfl
theorem ldIndHlD8 (v : Byte) : Statement (.ldIndHlD8 v) :=
  show 2 = (form 0x36).length from rfl
theorem jrCR8 (e : Byte) : Statement (.jrCR8 e) :=
  show 2 = (form 0x38).length from rfl
theorem ldAD8 (v : Byte) : Statement (.ldAD8 v) :=
  show 2 = (form 0x3E).length from rfl
theorem jpNzA16 (t : Word) : Statement (.jpNzA16 t) :=
  show 3 = (form 0xC2).length from rfl
theorem jpA16 (t : Word) : Statement (.jpA16 t) :=
  show 3 = (form 0xC3).length from rfl
theorem callNzA16 (t : Word) : Statement (.callNzA16 t) :=
  show 3 = (form 0xC4).length from rfl
theorem addAD8 (v : Byte) : Statement (.addAD8 v) :=
  show 2 = (form 0xC6).length from rfl
theorem jpZA16 (t : Word) : Statement (.jpZA16 t) :=
  show 3 = (form 0xCA).length from rfl
theorem callZA16 (t : Word) : Statement (.callZA16 t) :=
  show 3 = (form 0xCC).length from rfl
theorem callA16 (t : Word) : Statement (.callA16 t) :=
  show 3 = (form 0xCD).length from rfl
theorem adcAD8 (v : Byte) : Statement (.adcAD8 v) :=
  show 2 = (form 0xCE).length from rfl
theorem jpNcA16 (t : Word) : Statement (.jpNcA16 t) :=
  show 3 = (form 0xD2).length from rfl
theorem callNcA16 (t : Word) : Statement (.callNcA16 t) :=
  show 3 = (form 0xD4).length from rfl
theorem subD8 (v : Byte) : Statement (.subD8 v) :=
  show 2 = (form 0xD6).length from rfl
theorem jpCA16 (t : Word) : Statement (.jpCA16 t) :=
  show 3 = (form 0xDA).length from rfl
theorem callCA16 (t : Word) : Statement (.callCA16 t) :=
  show 3 = (form 0xDC).length from rfl
theorem sbcAD8 (v : Byte) : Statement (.sbcAD8 v) :=
  show 2 = (form 0xDE).length from rfl
theorem ldhIndA8A (o : Byte) : Statement (.ldhIndA8A o) :=
  show 2 = (form 0xE0).length from rfl
theorem andD8 (v : Byte) : Statement (.andD8 v) :=
  show 2 = (form 0xE6).length from rfl
theorem addSpR8 (e : Byte) : Statement (.addSpR8 e) :=
  show 2 = (form 0xE8).length from rfl
theorem ldIndA16A (t : Word) : Statement (.ldIndA16A t) :=
  show 3 = (form 0xEA).length from rfl
theorem xorD8 (v : Byte) : Statement (.xorD8 v) :=
  show 2 = (form 0xEE).length from rfl
theorem ldhAIndA8 (o : Byte) : Statement (.ldhAIndA8 o) :=
  show 2 = (form 0xF0).length from rfl
theorem orD8 (v : Byte) : Statement (.orD8 v) :=
  show 2 = (form 0xF6).length from rfl
theorem ldHlSpR8 (e : Byte) : Statement (.ldHlSpR8 e) :=
  show 2 = (form 0xF8).length from rfl
theorem ldAIndA16 (t : Word) : Statement (.ldAIndA16 t) :=
  show 3 = (form 0xFA).length from rfl
theorem cpD8 (v : Byte) : Statement (.cpD8 v) :=
  show 2 = (form 0xFE).length from rfl
theorem nop : Statement .nop := rfl
theorem ldBcA : Statement .ldBcA := rfl
theorem incBc : Statement .incBc := rfl
theorem incB : Statement .incB := rfl
theorem decB : Statement .decB := rfl
theorem rlca : Statement .rlca := rfl
theorem addHlBc : Statement .addHlBc := rfl
theorem ldAIndBc : Statement .ldAIndBc := rfl
theorem decBc : Statement .decBc := rfl
theorem incC : Statement .incC := rfl
theorem decC : Statement .decC := rfl
theorem rrca : Statement .rrca := rfl
theorem ldIndDeA : Statement .ldIndDeA := rfl
theorem incDe : Statement .incDe := rfl
theorem incD : Statement .incD := rfl
theorem decD : Statement .decD := rfl
theorem rla : Statement .rla := rfl
theorem addHlDe : Statement .addHlDe := rfl
theorem ldAIndDe : Statement .ldAIndDe := rfl
theorem decDe : Statement .decDe := rfl
theorem incE : Statement .incE := rfl
theorem decE : Statement .decE := rfl
theorem rra : Statement .rra := rfl
theorem ldIndHlIncA : Statement .ldIndHlIncA := rfl
theorem incHl : Statement .incHl := rfl
theorem incH : Statement .incH := rfl
theorem decH : Statement .decH := rfl
theorem daa : Statement .daa := rfl
theorem addHlHl : Statement .addHlHl := rfl
theorem ldAIndHlInc : Statement .ldAIndHlInc := rfl
theorem decHl : Statement .decHl := rfl
theorem incL : Statement .incL := rfl
theorem decL : Statement .decL := rfl
theorem cpl : Statement .cpl := rfl
theorem ldIndHlDecA : Statement .ldIndHlDecA := rfl
theorem incSp : Statement .incSp := rfl
theorem incIndHl : Statement .incIndHl := rfl
theorem decIndHl : Statement .decIndHl := rfl
theorem scf : Statement .scf := rfl
theorem addHlSp : Statement .addHlSp := rfl
theorem ldAIndHlDec : Statement .ldAIndHlDec := rfl
theorem decSp : Statement .decSp := rfl
theorem incA : Statement .incA := rfl
theorem decA : Statement .decA := rfl
theorem ccf : Statement .ccf := rfl
theorem ldBB : Statement .ldBB := rfl
theorem ldBC : Statement .ldBC := rfl
theorem ldBD : Statement .ldBD := rfl
theorem ldBE : Statement .ldBE := rfl
theorem ldBH : Statement .ldBH := rfl
theorem ldBL : Statement .ldBL := rfl
theorem ldBIndHl : Statement .ldBIndHl := rfl
theorem ldBA : Statement .ldBA := rfl
theorem ldCB : Statement .ldCB := rfl
theorem ldCC : Statement .ldCC := rfl
theorem ldCD : Statement .ldCD := rfl
theorem ldCE : Statement .ldCE := rfl
theorem ldCH : Statement .ldCH := rfl
theorem ldCL : Statement .ldCL := rfl
theorem ldCIndHl : Statement .ldCIndHl := rfl
theorem ldCA : Statement .ldCA := rfl
theorem ldDB : Statement .ldDB := rfl
theorem ldDC : Statement .ldDC := rfl
theorem ldDD : Statement .ldDD := rfl
theorem ldDE : Statement .ldDE := rfl
theorem ldDH : Statement .ldDH := rfl
theorem ldDL : Statement .ldDL := rfl
theorem ldDIndHl : Statement .ldDIndHl := rfl
theorem ldDA : Statement .ldDA := rfl
theorem ldEB : Statement .ldEB := rfl
theorem ldEC : Statement .ldEC := rfl
theorem ldED : Statement .ldED := rfl
theorem ldEE : Statement .ldEE := rfl
theorem ldEH : Statement .ldEH := rfl
theorem ldEL : Statement .ldEL := rfl
theorem ldEIndHl : Statement .ldEIndHl := rfl
theorem ldEA : Statement .ldEA := rfl
theorem ldHB : Statement .ldHB := rfl
theorem ldHC : Statement .ldHC := rfl
theorem ldHD : Statement .ldHD := rfl
theorem ldHE : Statement .ldHE := rfl
theorem ldHH : Statement .ldHH := rfl
theorem ldHL : Statement .ldHL := rfl
theorem ldHIndHl : Statement .ldHIndHl := rfl
theorem ldHA : Statement .ldHA := rfl
theorem ldLB : Statement .ldLB := rfl
theorem ldLC : Statement .ldLC := rfl
theorem ldLD : Statement .ldLD := rfl
theorem ldLE : Statement .ldLE := rfl
theorem ldLH : Statement .ldLH := rfl
theorem ldLL : Statement .ldLL := rfl
theorem ldLIndHl : Statement .ldLIndHl := rfl
theorem ldLA : Statement .ldLA := rfl
theorem ldIndHlB : Statement .ldIndHlB := rfl
theorem ldIndHlC : Statement .ldIndHlC := rfl
theorem ldIndHlD : Statement .ldIndHlD := rfl
theorem ldIndHlE : Statement .ldIndHlE := rfl
theorem ldIndHlH : Statement .ldIndHlH := rfl
theorem ldIndHlL : Statement .ldIndHlL := rfl
theorem halt : Statement .halt := rfl
theorem ldIndHlA : Statement .ldIndHlA := rfl
theorem ldAB : Statement .ldAB := rfl
theorem ldAC : Statement .ldAC := rfl
theorem ldAD : Statement .ldAD := rfl
theorem ldAE : Statement .ldAE := rfl
theorem ldAH : Statement .ldAH := rfl
theorem ldAL : Statement .ldAL := rfl
theorem ldAIndHl : Statement .ldAIndHl := rfl
theorem ldAA : Statement .ldAA := rfl
theorem addAB : Statement .addAB := rfl
theorem addAC : Statement .addAC := rfl
theorem addAD : Statement .addAD := rfl
theorem addAE : Statement .addAE := rfl
theorem addAH : Statement .addAH := rfl
theorem addAL : Statement .addAL := rfl
theorem addAIndHl : Statement .addAIndHl := rfl
theorem addAA : Statement .addAA := rfl
theorem adcAB : Statement .adcAB := rfl
theorem adcAC : Statement .adcAC := rfl
theorem adcAD : Statement .adcAD := rfl
theorem adcAE : Statement .adcAE := rfl
theorem adcAH : Statement .adcAH := rfl
theorem adcAL : Statement .adcAL := rfl
theorem adcAIndHl : Statement .adcAIndHl := rfl
theorem adcAA : Statement .adcAA := rfl
theorem subB : Statement .subB := rfl
theorem subC : Statement .subC := rfl
theorem subD : Statement .subD := rfl
theorem subE : Statement .subE := rfl
theorem subH : Statement .subH := rfl
theorem subL : Statement .subL := rfl
theorem subIndHl : Statement .subIndHl := rfl
theorem subA : Statement .subA := rfl
theorem sbcAB : Statement .sbcAB := rfl
theorem sbcAC : Statement .sbcAC := rfl
theorem sbcAD : Statement .sbcAD := rfl
theorem sbcAE : Statement .sbcAE := rfl
theorem sbcAH : Statement .sbcAH := rfl
theorem sbcAL : Statement .sbcAL := rfl
theorem sbcAIndHl : Statement .sbcAIndHl := rfl
theorem sbcAA : Statement .sbcAA := rfl
theorem andB : Statement .andB := rfl
theorem andC : Statement .andC := rfl
theorem andD : Statement .andD := rfl
theorem andE : Statement .andE := rfl
theorem andH : Statement .andH := rfl
theorem andL : Statement .andL := rfl
theorem andIndHl : Statement .andIndHl := rfl
theorem andA : Statement .andA := rfl
theorem xorB : Statement .xorB := rfl
theorem xorC : Statement .xorC := rfl
theorem xorD : Statement .xorD := rfl
theorem xorE : Statement .xorE := rfl
theorem xorH : Statement .xorH := rfl
theorem xorL : Statement .xorL := rfl
theorem xorIndHl : Statement .xorIndHl := rfl
theorem xorA : Statement .xorA := rfl
theorem orB : Statement .orB := rfl
theorem orC : Statement .orC := rfl
theorem orD : Statement .orD := rfl
theorem orE : Statement .orE := rfl
theorem orH : Statement .orH := rfl
theorem orL : Statement .orL := rfl
theorem orIndHl : Statement .orIndHl := rfl
theorem orA : Statement .orA := rfl
theorem cpB : Statement .cpB := rfl
theorem cpC : Statement .cpC := rfl
theorem cpD : Statement .cpD := rfl
theorem cpE : Statement .cpE := rfl
theorem cpH : Statement .cpH := rfl
theorem cpL : Statement .cpL := rfl
theorem cpIndHl : Statement .cpIndHl := rfl
theorem cpA : Statement .cpA := rfl
theorem retNz : Statement .retNz := rfl
theorem popBc : Statement .popBc := rfl
theorem pushBc : Statement .pushBc := rfl
theorem rst00 : Statement .rst00 := rfl
theorem retZ : Statement .retZ := rfl
theorem ret : Statement .ret := rfl
theorem prefixCb : Statement .prefixCb := rfl
theorem rst08 : Statement .rst08 := rfl
theorem retNc : Statement .retNc := rfl
theorem popDe : Statement .popDe := rfl
theorem illegalD3 : Statement .illegalD3 := rfl
theorem pushDe : Statement .pushDe := rfl
theorem rst10 : Statement .rst10 := rfl
theorem retC : Statement .retC := rfl
theorem reti : Statement .reti := rfl
theorem illegalDB : Statement .illegalDB := rfl
theorem illegalDD : Statement .illegalDD := rfl
theorem rst18 : Statement .rst18 := rfl
theorem popHl : Statement .popHl := rfl
theorem ldIndCA : Statement .ldIndCA := rfl
theorem illegalE3 : Statement .illegalE3 := rfl
theorem illegalE4 : Statement .illegalE4 := rfl
theorem pushHl : Statement .pushHl := rfl
theorem rst20 : Statement .rst20 := rfl
theorem jpHl : Statement .jpHl := rfl
theorem illegalEB : Statement .illegalEB := rfl
theorem illegalEC : Statement .illegalEC := rfl
theorem illegalED : Statement .illegalED := rfl
theorem rst28 : Statement .rst28 := rfl
theorem popAf : Statement .popAf := rfl
theorem ldAIndC : Statement .ldAIndC := rfl
theorem di : Statement .di := rfl
theorem illegalF4 : Statement .illegalF4 := rfl
theorem pushAf : Statement .pushAf := rfl
theorem rst30 : Statement .rst30 := rfl
theorem ldSpHl : Statement .ldSpHl := rfl
theorem ei : Statement .ei := rfl
theorem illegalFC : Statement .illegalFC := rfl
theorem illegalFD : Statement .illegalFD := rfl
theorem rst38 : Statement .rst38 := rfl

end Sys2Proof.Laws.EncodeLength
end

