-- ==== Sys2Proof/Tests/Slice0.lean ====
section
/-! SUPPORT. Tests: the opcode table's encodings decode to their instructions, the well-formedness smoke
test, one-step vectors of spec/95_test_vectors.md, and a witness for the hypotheses of each statement. -/

namespace Sys2Proof.Tests

open Sys2Proof Sys2Proof.Machine Sys2Proof.Claims

-- Decoding: the bits of each row of spec/opcode_table.json, with operand bytes written out.

/-- Every byte list decodes to the instruction beside it, with nothing left over. -/
def decodes (rows : List (List Byte × Instr)) : Bool :=
  rows.all fun p => decide (decode p.1 = .ok (p.2, []))

theorem test_decode_0x : decodes [
    ([0b00000000], .nop), ([0b00000001, 0x34, 0x12], .ldBcD16 0x1234), ([0b00000010], .ldBcA),
    ([0b00000011], .incBc), ([0b00000100], .incB), ([0b00000101], .decB),
    ([0b00000110, 0xA5], .ldBD8 0xA5), ([0b00000111], .rlca), ([0b00001000, 0x34, 0x12], .ldIndA16Sp 0x1234),
    ([0b00001001], .addHlBc), ([0b00001010], .ldAIndBc), ([0b00001011], .decBc),
    ([0b00001100], .incC), ([0b00001101], .decC), ([0b00001110, 0xA5], .ldCD8 0xA5),
    ([0b00001111], .rrca)] = true := by
  decide

theorem test_decode_1x : decodes [
    ([0b00010000, 0xA5], .stop 0xA5), ([0b00010001, 0x34, 0x12], .ldDeD16 0x1234), ([0b00010010], .ldIndDeA),
    ([0b00010011], .incDe), ([0b00010100], .incD), ([0b00010101], .decD),
    ([0b00010110, 0xA5], .ldDD8 0xA5), ([0b00010111], .rla), ([0b00011000, 0xA5], .jrR8 0xA5),
    ([0b00011001], .addHlDe), ([0b00011010], .ldAIndDe), ([0b00011011], .decDe),
    ([0b00011100], .incE), ([0b00011101], .decE), ([0b00011110, 0xA5], .ldED8 0xA5),
    ([0b00011111], .rra)] = true := by
  decide

theorem test_decode_2x : decodes [
    ([0b00100000, 0xA5], .jrNzR8 0xA5), ([0b00100001, 0x34, 0x12], .ldHlD16 0x1234), ([0b00100010], .ldIndHlIncA),
    ([0b00100011], .incHl), ([0b00100100], .incH), ([0b00100101], .decH),
    ([0b00100110, 0xA5], .ldHD8 0xA5), ([0b00100111], .daa), ([0b00101000, 0xA5], .jrZR8 0xA5),
    ([0b00101001], .addHlHl), ([0b00101010], .ldAIndHlInc), ([0b00101011], .decHl),
    ([0b00101100], .incL), ([0b00101101], .decL), ([0b00101110, 0xA5], .ldLD8 0xA5),
    ([0b00101111], .cpl)] = true := by
  decide

theorem test_decode_3x : decodes [
    ([0b00110000, 0xA5], .jrNcR8 0xA5), ([0b00110001, 0x34, 0x12], .ldSpD16 0x1234), ([0b00110010], .ldIndHlDecA),
    ([0b00110011], .incSp), ([0b00110100], .incIndHl), ([0b00110101], .decIndHl),
    ([0b00110110, 0xA5], .ldIndHlD8 0xA5), ([0b00110111], .scf), ([0b00111000, 0xA5], .jrCR8 0xA5),
    ([0b00111001], .addHlSp), ([0b00111010], .ldAIndHlDec), ([0b00111011], .decSp),
    ([0b00111100], .incA), ([0b00111101], .decA), ([0b00111110, 0xA5], .ldAD8 0xA5),
    ([0b00111111], .ccf)] = true := by
  decide

theorem test_decode_4x : decodes [
    ([0b01000000], .ldBB), ([0b01000001], .ldBC), ([0b01000010], .ldBD), ([0b01000011], .ldBE),
    ([0b01000100], .ldBH), ([0b01000101], .ldBL), ([0b01000110], .ldBIndHl), ([0b01000111], .ldBA),
    ([0b01001000], .ldCB), ([0b01001001], .ldCC), ([0b01001010], .ldCD), ([0b01001011], .ldCE),
    ([0b01001100], .ldCH), ([0b01001101], .ldCL), ([0b01001110], .ldCIndHl), ([0b01001111], .ldCA)] = true := by
  decide

theorem test_decode_5x : decodes [
    ([0b01010000], .ldDB), ([0b01010001], .ldDC), ([0b01010010], .ldDD), ([0b01010011], .ldDE),
    ([0b01010100], .ldDH), ([0b01010101], .ldDL), ([0b01010110], .ldDIndHl), ([0b01010111], .ldDA),
    ([0b01011000], .ldEB), ([0b01011001], .ldEC), ([0b01011010], .ldED), ([0b01011011], .ldEE),
    ([0b01011100], .ldEH), ([0b01011101], .ldEL), ([0b01011110], .ldEIndHl), ([0b01011111], .ldEA)] = true := by
  decide

theorem test_decode_6x : decodes [
    ([0b01100000], .ldHB), ([0b01100001], .ldHC), ([0b01100010], .ldHD), ([0b01100011], .ldHE),
    ([0b01100100], .ldHH), ([0b01100101], .ldHL), ([0b01100110], .ldHIndHl), ([0b01100111], .ldHA),
    ([0b01101000], .ldLB), ([0b01101001], .ldLC), ([0b01101010], .ldLD), ([0b01101011], .ldLE),
    ([0b01101100], .ldLH), ([0b01101101], .ldLL), ([0b01101110], .ldLIndHl), ([0b01101111], .ldLA)] = true := by
  decide

theorem test_decode_7x : decodes [
    ([0b01110000], .ldIndHlB), ([0b01110001], .ldIndHlC), ([0b01110010], .ldIndHlD), ([0b01110011], .ldIndHlE),
    ([0b01110100], .ldIndHlH), ([0b01110101], .ldIndHlL), ([0b01110110], .halt), ([0b01110111], .ldIndHlA),
    ([0b01111000], .ldAB), ([0b01111001], .ldAC), ([0b01111010], .ldAD), ([0b01111011], .ldAE),
    ([0b01111100], .ldAH), ([0b01111101], .ldAL), ([0b01111110], .ldAIndHl), ([0b01111111], .ldAA)] = true := by
  decide

theorem test_decode_8x : decodes [
    ([0b10000000], .addAB), ([0b10000001], .addAC), ([0b10000010], .addAD), ([0b10000011], .addAE),
    ([0b10000100], .addAH), ([0b10000101], .addAL), ([0b10000110], .addAIndHl), ([0b10000111], .addAA),
    ([0b10001000], .adcAB), ([0b10001001], .adcAC), ([0b10001010], .adcAD), ([0b10001011], .adcAE),
    ([0b10001100], .adcAH), ([0b10001101], .adcAL), ([0b10001110], .adcAIndHl), ([0b10001111], .adcAA)] = true := by
  decide

theorem test_decode_9x : decodes [
    ([0b10010000], .subB), ([0b10010001], .subC), ([0b10010010], .subD), ([0b10010011], .subE),
    ([0b10010100], .subH), ([0b10010101], .subL), ([0b10010110], .subIndHl), ([0b10010111], .subA),
    ([0b10011000], .sbcAB), ([0b10011001], .sbcAC), ([0b10011010], .sbcAD), ([0b10011011], .sbcAE),
    ([0b10011100], .sbcAH), ([0b10011101], .sbcAL), ([0b10011110], .sbcAIndHl), ([0b10011111], .sbcAA)] = true := by
  decide

theorem test_decode_Ax : decodes [
    ([0b10100000], .andB), ([0b10100001], .andC), ([0b10100010], .andD), ([0b10100011], .andE),
    ([0b10100100], .andH), ([0b10100101], .andL), ([0b10100110], .andIndHl), ([0b10100111], .andA),
    ([0b10101000], .xorB), ([0b10101001], .xorC), ([0b10101010], .xorD), ([0b10101011], .xorE),
    ([0b10101100], .xorH), ([0b10101101], .xorL), ([0b10101110], .xorIndHl), ([0b10101111], .xorA)] = true := by
  decide

theorem test_decode_Bx : decodes [
    ([0b10110000], .orB), ([0b10110001], .orC), ([0b10110010], .orD), ([0b10110011], .orE),
    ([0b10110100], .orH), ([0b10110101], .orL), ([0b10110110], .orIndHl), ([0b10110111], .orA),
    ([0b10111000], .cpB), ([0b10111001], .cpC), ([0b10111010], .cpD), ([0b10111011], .cpE),
    ([0b10111100], .cpH), ([0b10111101], .cpL), ([0b10111110], .cpIndHl), ([0b10111111], .cpA)] = true := by
  decide

theorem test_decode_Cx : decodes [
    ([0b11000000], .retNz), ([0b11000001], .popBc), ([0b11000010, 0x34, 0x12], .jpNzA16 0x1234),
    ([0b11000011, 0x34, 0x12], .jpA16 0x1234), ([0b11000100, 0x34, 0x12], .callNzA16 0x1234), ([0b11000101], .pushBc),
    ([0b11000110, 0xA5], .addAD8 0xA5), ([0b11000111], .rst00), ([0b11001000], .retZ),
    ([0b11001001], .ret), ([0b11001010, 0x34, 0x12], .jpZA16 0x1234), ([0b11001011], .prefixCb),
    ([0b11001100, 0x34, 0x12], .callZA16 0x1234), ([0b11001101, 0x34, 0x12], .callA16 0x1234), ([0b11001110, 0xA5], .adcAD8 0xA5),
    ([0b11001111], .rst08)] = true := by
  decide

theorem test_decode_Dx : decodes [
    ([0b11010000], .retNc), ([0b11010001], .popDe), ([0b11010010, 0x34, 0x12], .jpNcA16 0x1234),
    ([0b11010011], .illegalD3), ([0b11010100, 0x34, 0x12], .callNcA16 0x1234), ([0b11010101], .pushDe),
    ([0b11010110, 0xA5], .subD8 0xA5), ([0b11010111], .rst10), ([0b11011000], .retC),
    ([0b11011001], .reti), ([0b11011010, 0x34, 0x12], .jpCA16 0x1234), ([0b11011011], .illegalDB),
    ([0b11011100, 0x34, 0x12], .callCA16 0x1234), ([0b11011101], .illegalDD), ([0b11011110, 0xA5], .sbcAD8 0xA5),
    ([0b11011111], .rst18)] = true := by
  decide

theorem test_decode_Ex : decodes [
    ([0b11100000, 0xA5], .ldhIndA8A 0xA5), ([0b11100001], .popHl), ([0b11100010], .ldIndCA),
    ([0b11100011], .illegalE3), ([0b11100100], .illegalE4), ([0b11100101], .pushHl),
    ([0b11100110, 0xA5], .andD8 0xA5), ([0b11100111], .rst20), ([0b11101000, 0xA5], .addSpR8 0xA5),
    ([0b11101001], .jpHl), ([0b11101010, 0x34, 0x12], .ldIndA16A 0x1234), ([0b11101011], .illegalEB),
    ([0b11101100], .illegalEC), ([0b11101101], .illegalED), ([0b11101110, 0xA5], .xorD8 0xA5),
    ([0b11101111], .rst28)] = true := by
  decide

theorem test_decode_Fx : decodes [
    ([0b11110000, 0xA5], .ldhAIndA8 0xA5), ([0b11110001], .popAf), ([0b11110010], .ldAIndC),
    ([0b11110011], .di), ([0b11110100], .illegalF4), ([0b11110101], .pushAf),
    ([0b11110110, 0xA5], .orD8 0xA5), ([0b11110111], .rst30), ([0b11111000, 0xA5], .ldHlSpR8 0xA5),
    ([0b11111001], .ldSpHl), ([0b11111010, 0x34, 0x12], .ldAIndA16 0x1234), ([0b11111011], .ei),
    ([0b11111100], .illegalFC), ([0b11111101], .illegalFD), ([0b11111110, 0xA5], .cpD8 0xA5),
    ([0b11111111], .rst38)] = true := by
  decide

-- Well-formedness: the 12 rows without a defined behaviour are refused, their neighbours are not.

theorem test_wellFormed_refuses_illegal : [Instr.illegalD3, .illegalDB, .illegalDD, .illegalE3, .illegalE4, .illegalEB,
    .illegalEC, .illegalED, .illegalF4, .illegalFC, .illegalFD].all (fun i => !i.wellFormed) = true := by decide

theorem test_wellFormed_refuses_prefix_cb : Instr.prefixCb.wellFormed = false := by decide

theorem test_wellFormed_accepts : [Instr.jpCA16 0x1234, .callCA16 0x1234, .halt, .stop 0x00, .di, .rst38].all
    Instr.wellFormed = true := by decide

theorem test_decode_refuses_truncated : decode [] = .error .noBytes ∧ decode [0x3E] = .error (.truncated 0x3E) ∧
    decode [0xC3, 0x00] = .error (.truncated 0xC3) := by decide

-- A table word: later bytes in higher bits, every bit above nbits 0.

theorem test_decodeTableWord : decodeTableWord 24 0xBEEF21 = some (.ldHlD16 0xBEEF) ∧
    decodeTableWord 8 0xFF21 = some (.ldHlD16 0x0000) ∧ decodeTableWord 8 0xD3 = some .illegalD3 := by decide

-- One-step vectors of spec/95_test_vectors.md; a name begins with the vector's id.

/-- The base state of spec/95_test_vectors.md, with its reference memory. -/
def base : State := { State.reset with pc := 0xC000 }

/-- The reference memory with some bytes and some read-only or unmapped regions. -/
def fixture (cells : List Host.Cell) (map : List Region) : Memory := { cells := cells, map := map, device := 0 }

/-- One address with a backing of its own. -/
def only (a : Word) (b : Backing) : Region := { first := a, last := a, backing := b }

/-- Place bytes at PC, take one step, and look at the result. -/
def runs {α : Type} (bytes : List Byte) (s : State) (view : State → α) : Option α :=
  match step (s.loadBytes bytes) with
  | .next t => some (view t)
  | .fault _ => none
  | .refused _ => none

/-- The state one step leaves. -/
def took (s : State) : Option State :=
  match step s with
  | .next t => some t
  | .fault _ => none
  | .refused _ => none

theorem test_A1_add_zero_and_carries : runs [0x80] { base with a := 0x3A, b := 0xC6, f := 0x00 }
    (fun t => (t.a, t.f, t.pc, t.cycles)) = some (0x00, 0xB0, 0xC001, 4) := by decide

theorem test_A2_add_carry_without_half : runs [0x87] { base with a := 0x80, f := 0x00 }
    (fun t => (t.a, t.f)) = some (0x00, 0x90) := by decide

theorem test_A4_adc_carry_in : runs [0x88] { base with a := 0xFF, b := 0x00, f := 0x10 }
    (fun t => (t.a, t.f)) = some (0x00, 0xB0) := by decide

theorem test_A5_adc_carry_in_nibble : runs [0x88] { base with a := 0x0F, b := 0x00, f := 0x10 }
    (fun t => (t.a, t.f)) = some (0x10, 0x20) := by decide

theorem test_A6_add_hl : runs [0x86] { base with a := 0x3C, h := 0x80, l := 0x00, mem := fixture [(0x8000, 0x12)] [] }
    (fun t => (t.a, t.f, t.cycles)) = some (0x4E, 0x00, 8) := by decide

theorem test_A7_add_d8 : runs [0xC6, 0x01] { base with a := 0x0F, f := 0x00 }
    (fun t => (t.a, t.f, t.pc, t.cycles)) = some (0x10, 0x20, 0xC002, 8) := by decide

theorem test_A8_add_absent : runs [0x86] { base with a := 0x05, h := 0x80, l := 0x00, mem := fixture [] [only 0x8000 .unmapped] }
    (fun t => (t.a, t.f, t.cycles)) = some (0x05, 0x00, 8) := by decide

theorem test_B1_sub_low : runs [0x90] { base with a := 0x00, b := 0x01, f := 0x00 }
    (fun t => (t.a, t.f)) = some (0xFF, 0x70) := by decide

theorem test_B1_sub_high : runs [0x90] { base with a := 0x00, b := 0x01, f := 0x00, cfg := ⟨.dmg, .high, .fetch⟩ }
    (fun t => (t.a, t.f)) = some (0xFF, 0x50) := by decide

theorem test_B5_sub_d8_low : runs [0xD6, 0x0F] { base with a := 0x3E, f := 0x00 }
    (fun t => (t.a, t.f, t.pc, t.cycles)) = some (0x2F, 0x60, 0xC002, 8) := by decide

theorem test_B5_sub_d8_high : runs [0xD6, 0x0F] { base with a := 0x3E, f := 0x00, cfg := ⟨.dmg, .high, .fetch⟩ }
    (fun t => (t.a, t.f)) = some (0x2F, 0x40) := by decide

theorem test_B6_sbc_borrow : runs [0x98] { base with a := 0x55, b := 0xFF, f := 0x10 }
    (fun t => (t.a, t.f)) = some (0x55, 0x70) := by decide

theorem test_B7_sbc_high : runs [0x98] { base with a := 0x00, b := 0x00, f := 0x10, cfg := ⟨.dmg, .high, .fetch⟩ }
    (fun t => (t.a, t.f)) = some (0xFF, 0x50) := by decide

theorem test_B9_sbc_hl : runs [0x9E] { base with a := 0x3B, h := 0x4F, l := 0x4F, f := 0x10, mem := fixture [(0x4F4F, 0x4F)] [] }
    (fun t => (t.a, t.f, t.cycles)) = some (0xEB, 0x70, 8) := by decide

theorem test_B10_cp_low : runs [0xB8] { base with a := 0x3C, b := 0x2F, f := 0x00 }
    (fun t => (t.a, t.f)) = some (0x3C, 0x60) := by decide

theorem test_B12_cp_d8 : runs [0xFE, 0x3C] { base with a := 0x3C }
    (fun t => (t.a, t.f, t.pc, t.cycles)) = some (0x3C, 0xC0, 0xC002, 8) := by decide

theorem test_C1v_and_d8 : runs [0xE6, 0xFF] { base with a := 0xFF, f := 0x50 }
    (fun t => (t.a, t.f, t.pc, t.cycles)) = some (0xFF, 0x20, 0xC002, 8) := by decide

theorem test_C2v_and_hl : runs [0xA6] { base with a := 0x5A, h := 0x80, l := 0x00 }
    (fun t => (t.a, t.f, t.cycles)) = some (0x00, 0xA0, 8) := by decide

theorem test_C3v_xor_a : runs [0xAF] { base with a := 0xFF, f := 0x10 }
    (fun t => (t.a, t.f, t.cycles)) = some (0x00, 0x80, 4) := by decide

theorem test_C4v_or_d8 : runs [0xF6, 0x00] { base with a := 0x00, f := 0x70 }
    (fun t => (t.a, t.f, t.cycles)) = some (0x00, 0x80, 8) := by decide

theorem test_C5v_or_hl : runs [0xB6] { base with a := 0x5A, h := 0x80, l := 0x00, mem := fixture [(0x8000, 0x0F)] [] }
    (fun t => (t.a, t.f, t.cycles)) = some (0x5F, 0x00, 8) := by decide

theorem test_L12a_inc_wraps : runs [0x3C] { base with a := 0xFF, f := 0x00 }
    (fun t => (t.a, t.f, t.pc, t.cycles)) = some (0x00, 0xB0, 0xC001, 4) := by decide

theorem test_D1v_inc_clears_c : runs [0x3C] { base with a := 0x0F, f := 0x10 }
    (fun t => (t.a, t.f)) = some (0x10, 0x20) := by decide

theorem test_L12b_dec_wraps : runs [0x3D] { base with a := 0x00, f := 0x80 }
    (fun t => (t.a, t.f, t.pc, t.cycles)) = some (0xFF, 0x70, 0xC001, 4) := by decide

theorem test_D3v_dec_clears_c : runs [0x3D] { base with a := 0x01, f := 0x30 }
    (fun t => (t.a, t.f)) = some (0x00, 0xC0) := by decide

theorem test_D4v_inc_hl : runs [0x34] { base with h := 0x80, l := 0x00, f := 0x00, mem := fixture [(0x8000, 0xFF)] [] }
    (fun t => (t.mem.byteAt 0x8000, t.f, t.cycles)) = some (0x00, 0xB0, 12) := by decide

theorem test_D5v_inc_hl_rejected : runs [0x34] { base with h := 0x80, l := 0x00, f := 0x00, mem := fixture [(0x8000, 0x41)] [only 0x8000 .rom] }
    (fun t => (t.mem.byteAt 0x8000, t.f, t.cycles)) = some (0x41, 0x00, 12) := by decide

theorem test_D6v_dec_hl : runs [0x35] { base with h := 0x80, l := 0x00 }
    (fun t => (t.mem.byteAt 0x8000, t.f, t.cycles)) = some (0xFF, 0x70, 12) := by decide

theorem test_E1v_cpl : runs [0x2F] { base with a := 0xFF, f := 0x90 }
    (fun t => (t.a, t.f, t.pc, t.cycles)) = some (0x00, 0xF0, 0xC001, 4) := by decide

theorem test_E3v_daa_add : runs [0x27] { base with a := 0x9A, f := 0x00 }
    (fun t => (t.a, t.f)) = some (0x00, 0x90) := by decide

theorem test_E4v_daa_sub : runs [0x27] { base with a := 0x00, f := 0x70 }
    (fun t => (t.a, t.f)) = some (0x9A, 0x50) := by decide

theorem test_E5v_scf : runs [0x37] { base with f := 0x80 }
    (fun t => (t.f, t.cycles)) = some (0x90, 4) := by decide

theorem test_E6v_ccf : runs [0x3F] { base with f := 0x00 }
    (fun t => (t.f, t.cycles)) = some (0x10, 4) := by decide

theorem test_F1v_add_hl_keeps_z : runs [0x29] { base with h := 0x80, l := 0x00, f := 0x80 }
    (fun t => (t.hl, t.f, t.cycles)) = some (0x0000, 0x90, 8) := by decide

theorem test_F3v_add_hl_half_from_bit3 : runs [0x09] { base with h := 0x00, l := 0xF8, b := 0x00, c := 0x08, f := 0x00 }
    (fun t => (t.hl, t.f)) = some (0x0100, 0x20) := by decide

theorem test_F4v_add_hl_sp_carry : runs [0x39] { base with h := 0xFF, l := 0xFF, sp := 0x0001, f := 0x00 }
    (fun t => (t.hl, t.f)) = some (0x0000, 0x30) := by decide

theorem test_F5v_inc_sp : runs [0x33] { base with sp := 0xFFFF, f := 0xF0 }
    (fun t => (t.sp, t.f, t.cycles)) = some (0x0000, 0xF0, 8) := by decide

theorem test_F6v_dec_hl : runs [0x2B] { base with h := 0x00, l := 0x00, f := 0x00 }
    (fun t => (t.hl, t.f, t.cycles)) = some (0xFFFF, 0x00, 8) := by decide

theorem test_S1_inc_bc : runs [0x03] base
    (fun t => (t.bc, t.f, t.cycles)) = some (0x0014, 0xB0, 8) := by decide

theorem test_F8v_add_sp_negative : runs [0xE8, 0xFF] { base with sp := 0x0000, f := 0xF0 }
    (fun t => (t.sp, t.f, t.pc, t.cycles)) = some (0xFFFF, 0x00, 0xC002, 16) := by decide

theorem test_F10v_add_sp_minus_128 : runs [0xE8, 0x80] { base with sp := 0x0080, f := 0x00 }
    (fun t => (t.sp, t.f)) = some (0x0000, 0x10) := by decide

theorem test_F11v_ld_hl_sp : runs [0xF8, 0xF8] { base with f := 0x00 }
    (fun t => (t.hl, t.sp, t.f, t.cycles)) = some (0xFFF6, 0xFFFE, 0x30, 16) := by decide

theorem test_G1v_rlca : runs [0x07] { base with a := 0x80, f := 0x00 }
    (fun t => (t.a, t.f, t.cycles)) = some (0x01, 0x10, 4) := by decide

theorem test_G2v_rlca_clears_z : runs [0x07] { base with a := 0x00, f := 0x80 }
    (fun t => (t.a, t.f)) = some (0x00, 0x00) := by decide

theorem test_G3v_rrca : runs [0x0F] { base with a := 0x01, f := 0x00 }
    (fun t => (t.a, t.f)) = some (0x80, 0x10) := by decide

theorem test_G4v_rla : runs [0x17] { base with a := 0x80, f := 0x00 }
    (fun t => (t.a, t.f)) = some (0x00, 0x10) := by decide

theorem test_G5v_rra : runs [0x1F] { base with a := 0x01, f := 0x10 }
    (fun t => (t.a, t.f)) = some (0x80, 0x10) := by decide

theorem test_H2v_ld_h_from_hl : runs [0x66] { base with h := 0x80, l := 0x00, mem := fixture [(0x8000, 0x12)] [] }
    (fun t => (t.hl, t.cycles)) = some (0x1200, 8) := by decide

theorem test_H3v_ld_absent : runs [0x7E] { base with h := 0x80, l := 0x00, mem := fixture [] [only 0x8000 .unmapped] }
    (fun t => (t.a, t.cycles)) = some (0x00, 8) := by decide

theorem test_H4v_store_rejected : runs [0x77] { base with a := 0x55, h := 0x80, l := 0x00, mem := fixture [] [only 0x8000 .rom] }
    (fun t => (t.mem.byteAt 0x8000, t.bus, t.cycles)) = some (0x00, [.read 0xC000 (some 0x77), .write 0x8000 0x55 false], 8) := by decide

theorem test_H5v_absent_operand : runs [0x3E] { base with a := 0x77, mem := fixture [] [only 0xC001 .unmapped] }
    (fun t => (t.a, t.pc, t.cycles)) = some (0x00, 0xC002, 8) := by decide

theorem test_H6v_ld_bc_a : runs [0x02] { base with a := 0xFF, b := 0x12, c := 0x34 }
    (fun t => (t.bc, t.bus, t.cycles)) = some (0x00FF, [.read 0xC000 (some 0x02)], 8) := by decide

theorem test_H7v_ld_a_hl_inc : runs [0x2A] { base with h := 0xFF, l := 0xFF, mem := fixture [(0xFFFF, 0x77)] [] }
    (fun t => (t.a, t.hl)) = some (0x77, 0x0000) := by decide

theorem test_H8v_ld_hl_dec_a : runs [0x32] { base with a := 0x99, h := 0x00, l := 0x00 }
    (fun t => (t.mem.byteAt 0x0000, t.hl)) = some (0x99, 0xFFFF) := by decide

theorem test_H9v_ld_a16_sp_wraps : runs [0x08, 0xFF, 0xFF] { base with sp := 0x1234 }
    (fun t => (t.mem.byteAt 0xFFFF, t.mem.byteAt 0x0000, t.pc, t.cycles)) = some (0x34, 0x12, 0xC003, 20) := by decide

theorem test_H10v_ldh_a_a8 : runs [0xF0, 0xFF] { base with mem := fixture [(0xFFFF, 0x1F)] [] }
    (fun t => (t.a, t.pc, t.cycles)) = some (0x1F, 0xC002, 12) := by decide

theorem test_H11v_ld_a_ind_c : runs [0xF2] { base with c := 0x00, mem := fixture [(0xFF00, 0xCF)] [] }
    (fun t => (t.a, t.cycles)) = some (0xCF, 8) := by decide

theorem test_H12v_ld_hl_d16 : runs [0x21, 0xEF, 0xBE] base
    (fun t => (t.h, t.l, t.pc, t.cycles)) = some (0xBE, 0xEF, 0xC003, 12) := by decide

theorem test_H13v_ld_a_a16_order : runs [0xFA, 0x00, 0x80] { base with mem := fixture [(0x8000, 0x9C)] [] }
    (fun t => (t.a, t.bus, t.cycles)) = some (0x9C, [.read 0xC000 (some 0xFA), .read 0xC001 (some 0x00), .read 0xC002 (some 0x80), .read 0x8000 (some 0x9C)], 16) := by decide

theorem test_J1_jr_self : runs [0x18, 0xFE] base
    (fun t => (t.pc, t.cycles)) = some (0xC000, 12) := by decide

theorem test_J2_jr_wraps : runs [0x18, 0x80] { base with pc := 0x0010 }
    (fun t => t.pc) = some 0xFF92 := by decide

theorem test_J4_jr_z_taken : runs [0x28, 0xF0] { base with f := 0x80 }
    (fun t => (t.pc, t.cycles)) = some (0xBFF2, 12) := by decide

theorem test_J5_jr_nz_not_taken : runs [0x20, 0x10] { base with f := 0x80 }
    (fun t => (t.pc, t.cycles)) = some (0xC002, 8) := by decide

theorem test_J6_jp_nc_not_taken : runs [0xD2, 0x00, 0x90] { base with f := 0x10 }
    (fun t => (t.pc, t.cycles)) = some (0xC003, 12) := by decide

theorem test_J7_call_wraps : runs [0xCD, 0x34, 0x12] { base with sp := 0x0001 }
    (fun t => (t.sp, t.mem.byteAt 0xFFFF, t.mem.byteAt 0x0000, t.pc, t.cycles)) = some (0xFFFF, 0x03, 0xC0, 0x1234, 24) := by decide

theorem test_J8_ret_wraps : runs [0xC9] { base with sp := 0xFFFF, mem := fixture [(0x0000, 0x12), (0xFFFF, 0x34)] [] }
    (fun t => (t.pc, t.sp, t.cycles)) = some (0x1234, 0x0001, 16) := by decide

theorem test_J9_ret_z_not_taken : runs [0xC8] { base with sp := 0xFFF0, f := 0x00 }
    (fun t => (t.pc, t.sp, t.bus, t.cycles)) = some (0xC001, 0xFFF0, [.read 0xC000 (some 0xC8)], 8) := by decide

theorem test_J10_rst_00 : runs [0xC7] { base with pc := 0x0150 }
    (fun t => (t.sp, t.mem.byteAt 0xFFFC, t.mem.byteAt 0xFFFD, t.pc, t.cycles)) = some (0xFFFC, 0x51, 0x01, 0x0000, 16) := by decide

theorem test_J11_push_de : runs [0xD5] { base with sp := 0x0000 }
    (fun t => (t.sp, t.mem.byteAt 0xFFFE, t.mem.byteAt 0xFFFF, t.cycles)) = some (0xFFFE, 0xD8, 0x00, 16) := by decide

theorem test_J12_push_half_rejected : runs [0xC5] { base with b := 0xAB, c := 0xCD, mem := fixture [] [only 0xFFFC .rom] }
    (fun t => (t.sp, t.mem.byteAt 0xFFFC, t.mem.byteAt 0xFFFD)) = some (0xFFFC, 0x00, 0xAB) := by decide

theorem test_J14_pop_half_absent : runs [0xC1] { base with sp := 0xFFF0, mem := fixture [(0xFFF0, 0x34), (0xFFF1, 0x12)] [only 0xFFF1 .unmapped] }
    (fun t => (t.b, t.c, t.sp)) = some (0x00, 0x34, 0xFFF2) := by decide

theorem test_J15_pop_af : runs [0xF1] { base with sp := 0xFFF0, mem := fixture [(0xFFF0, 0xFF), (0xFFF1, 0x12)] [] }
    (fun t => (t.a, t.f, t.sp, t.cycles)) = some (0x12, 0xF0, 0xFFF2, 12) := by decide

theorem test_J16_jp_hl : runs [0xE9] { base with h := 0x80, l := 0x00, f := 0xB0 }
    (fun t => (t.pc, t.f, t.cycles)) = some (0x8000, 0xB0, 4) := by decide

theorem test_K1v_nop : runs [0x00] base
    (fun t => (t.pc, t.cycles)) = some (0xC001, 4) := by decide

theorem test_K3v_halt : runs [0x76] base
    (fun t => (t.pc, t.cycles, t.mode)) = some (0xC001, 4, .halted) := by decide

theorem test_K4v_stop : runs [0x10, 0xA5] base
    (fun t => (t.pc, t.cycles, t.mode)) = some (0xC002, 4, .stopped) := by decide

theorem test_K5v_di : runs [0xF3] base
    (fun t => (t.pc, t.cycles, t.mode)) = some (0xC001, 4, .running) := by decide

theorem test_K6v_prefix_cb : runs [0xCB, 0x37] base
    (fun t => (t.pc, t.cycles, t.mode, t.bus)) = some (0xC000, 0, .faulted .notImplemented 0xCB, [.read 0xC000 (some 0xCB)]) := by decide

theorem test_K7v_illegal_ed : runs [0xED] base
    (fun t => (t.pc, t.cycles, t.mode, t.bus)) = some (0xC000, 0, .faulted .illegalOpcode 0xED, [.read 0xC000 (some 0xED)]) := by decide

/-- K2v: an absent opcode byte reads as 0x00, a NOP. -/
theorem test_K2v_absent_opcode :
    took { base with mem := fixture [(0xC000, 0x76)] [only 0xC000 .unmapped] } =
      some { base with
        mem := fixture [(0xC000, 0x76)] [only 0xC000 .unmapped], pc := 0xC001, cycles := 4
        bus := [.read 0xC000 none] } := by decide

/-- R95, HARNESS: the opcode comes from the port without a read request, its operand from PC + 1. -/
theorem test_harness_opcode :
    took { base with
        cfg := ⟨.dmg, .low, .harness⟩, opcodeIn := 0x3E, mem := fixture [(0xC000, 0x76), (0xC001, 0x42)] [] } =
      some { base with
        cfg := ⟨.dmg, .low, .harness⟩, opcodeIn := 0x3E, mem := fixture [(0xC000, 0x76), (0xC001, 0x42)] []
        a := 0x42, pc := 0xC002, cycles := 8, bus := [.read 0xC001 (some 0x42)] } := by decide

/-- `withFetchWord` makes the very next step run the instruction, from reset, from a fault, under HARNESS and
over an unmapped address. -/
theorem test_withFetchWord :
    [State.reset, { State.reset with mode := .faulted .notImplemented 0xCB },
      { State.reset with cfg := ⟨.dmg, .low, .harness⟩ },
      { State.reset with mem := fixture [] [only 0x0100 .unmapped] }].all
      (fun s => decide ((stateOr s (step (s.withFetchWord 16 0x423E))).a = 0x42)) = true := by decide

/-- Writing the unlisted byte removes the entry, so equal memories are equal data. -/
theorem test_memory_canonical : ((fixture [] []).store 0x8000 0x12).cells = [(0x8000, 0x12)] ∧
    ((fixture [] []).store 0x8000 0x12).store 0x8000 0x00 = fixture [] [] := by decide

/-- R51, R53: a bank select. A device's answer after an accepted write may depend on the byte written. -/
theorem test_device_answer_after_write (v : Byte) :
    let m := fixture [] [{ first := 0x0000, last := 0x7FFF, backing := .device }]
    m.accepts 0x2000 v = true →
    (m.store 0x2000 v).answer 0x4000 = Config.deviceRead (Config.deviceAfterWrite 0 0x2000 v) 0x4000 := by
  intro m h
  have h' : Config.deviceAccepts 0 0x2000 v = true := h
  have e : m.store 0x2000 v = { m with device := Config.deviceAfterWrite 0 0x2000 v } := if_pos h'
  rw [e]
  rfl

-- Witnesses: for each statement with hypotheses, a state and operands that meet all of them together.

theorem witness_NopDiEiResults :
    let s := { base with mem := fixture [] [only 0xC000 .unmapped] }
    s.mode = .running ∧ s.cfg.opcodeSource = .fetch ∧ s.mem.answer s.pc = none := by decide

theorem witness_FatalOpcodesFault_illegal :
    let s := { base with mem := fixture [(0xC000, 0xFD)] [] }
    s.mode = .running ∧ s.cfg.opcodeSource = .fetch ∧ s.readByte s.pc = 0xFD := by decide

theorem witness_FatalOpcodesFault_prefix_cb :
    let s := { base with mem := fixture [(0xC000, 0xCB)] [] }
    s.mode = .running ∧ s.cfg.opcodeSource = .fetch ∧ s.readByte s.pc = 0xCB := by decide

theorem witness_ResetEventRestartsAnyState : State.reset.cfg.revision = .dmg ∧
    { State.reset with mode := .faulted .notImplemented 0xCB }.mode ≠ .running := by decide

theorem witness_NotRunningStepDoesNothing : [Mode.halted, .stopped, .faulted .illegalOpcode 0xD3].all
    (fun m => decide ({ base with mode := m }.mode ≠ .running)) = true := by decide

theorem witness_StepRunsTheDecodedInstruction_fetch :
    let s := { base with pc := 0xFFFE, mem := fixture [(0x0000, 0x12), (0xFFFE, 0xCD), (0xFFFF, 0x34)] [] }
    s.mode = .running ∧ s.cfg.opcodeSource = .fetch ∧ decode (bytesAtPc s) = .ok (.callA16 0x1234, []) := by decide

theorem witness_StepRunsTheDecodedInstruction_harness :
    let s := { base with cfg := ⟨.dmg, .low, .harness⟩, opcodeIn := 0x3E, mem := fixture [(0xC001, 0x42)] [] }
    s.mode = .running ∧ s.cfg.opcodeSource = .harness ∧ decode (bytesFromPort s) = .ok (.ldAD8 0x42, [0x00]) := by
  decide

theorem witness_StepExecutesStoredEncoding :
    let s := { base with pc := 0xFFFE, mem := fixture [(0x0000, 0x12), (0xFFFE, 0xCD), (0xFFFF, 0x34)] [] }
    s.mode = .running ∧ s.cfg.opcodeSource = .fetch ∧
    (∀ k, k < (encode (.callA16 0x1234)).length → s.mem.backingAt (s.pc + BitVec.ofNat 16 k) ≠ .device) ∧
    (∀ k, k < (encode (.callA16 0x1234)).length →
      s.readByte (s.pc + BitVec.ofNat 16 k) = (encode (.callA16 0x1234)).getD k 0) := by decide

theorem witness_EncodeOfDecode : decode [0x21, 0xEF, 0xBE, 0x76] = .ok (.ldHlD16 0xBEEF, [0x76]) := by decide

theorem witness_ByteReadSubstitutesZero :
    (fixture [(0xFFFF, 0x77)] []).answer 0xFFFF = some 0x77 ∧
    (fixture [(0x0000, 0x12)] [only 0x0000 .unmapped]).answer 0x0000 = none ∧ base.cfg.opcodeSource = .fetch := by decide

theorem witness_ReadAfterWrite :
    let m := fixture [(0x0000, 0x12), (0xFFFF, 0x34)] [only 0x4000 .rom, only 0x4001 .unmapped]
    m.wf = true ∧ m.backingAt 0xFFFF = .ram ∧ m.backingAt 0x4000 = .rom ∧ m.backingAt 0x4001 = .unmapped ∧
    m.accepts 0x4000 0x55 = false ∧ m.accepts 0x4001 0x55 = false := by decide

theorem witness_DeviceAnswersFollowItsState :
    let m := fixture [] [{ first := 0xFF00, last := 0xFF7F, backing := .device }]
    m.backingAt 0xFF00 = .device ∧ m.backingAt 0xFF7F = .device ∧ m.backingAt 0xFF80 ≠ .device := by decide

theorem witness_WordAccessLittleEndian : [(0x0000 : Word), 0xC000, 0xFFFE, 0xFFFF].all (fun a =>
    base.mem.wf && decide (base.mem.backingAt a = .ram) && decide (base.mem.backingAt (a + 1) = .ram)) = true := by
  decide

theorem witness_StoreIsSeenByFetch :
    base.mem.wf = true ∧ base.mem.backingAt 0xFFFF = .ram ∧ base.cfg.opcodeSource = .fetch := by decide

theorem witness_InvariantKeptByStep :
    base.inv = true ∧ step base = .next { base with pc := 0xC001, cycles := 4, bus := [.read 0xC000 (some 0x00)] } :=
  ⟨by decide, rfl⟩

theorem witness_PcAdvancesByTheLength : writesPc (.stop 0x00) = false ∧ writesPc .illegalD3 = false ∧
    writesPc .prefixCb = false := by decide

theorem witness_RegisterFrame : Reg8.a ∉ dest .ldIndHlA ∧ Reg8.b ∉ dest .incC ∧ writesSp (.ldHlSpR8 0x01) = false := by
  decide

theorem witness_FlagFrame : (flagsWritten .addHlBc).1 = false ∧ (flagsWritten .daa).2.1 = false ∧
    (flagsWritten .ldAB).2.2.1 = false ∧ (flagsWritten .cpl).2.2.2 = false := by decide

theorem witness_MemoryFrame : (0xC000 : Word) ∉ storedAt .pushBc { base with sp := 0x0001 } ∧
    (0x0000 : Word) ∉ storedAt .ldIndHlA { base with h := 0xFF, l := 0xFF } ∧
    (0x0000 : Word) ∉ storedAt .cpIndHl { base with h := 0x00, l := 0x00 } ∧
    base.mem.backingAt 0x0000 ≠ .device ∧ base.mem.backingAt 0xC000 ≠ .device := by decide

theorem witness_StepRequestsInOrder : base.mode = .running ∧ { base with cfg := ⟨.dmg, .low, .harness⟩ }.mode = .running := by
  decide

/-- A device page. -/
def page : Region := { first := 0xFF00, last := 0xFF7F, backing := .device }

/-- The whole address space, read-only. -/
def everywhere : Region := { first := 0x0000, last := 0xFFFF, backing := .rom }

/-- Two memories with one device page: outside it one accepts every write and one accepts none, and both
answer every read alike. -/
theorem witness_WriteAnswersAreInvisible :
    let s := { base with mem := fixture [] [page] }
    let m := fixture [] [page, everywhere]
    s.mem.backingAt 0xFF00 = .device ∧ s.mem.accepts 0xC000 0x55 ≠ m.accepts 0xC000 0x55 ∧
    ∀ a : Word, (m.backingAt a = .device ↔ s.mem.backingAt a = .device) ∧
      (s.mem.backingAt a = .device → m.device = s.mem.device) ∧ m.answer a = s.mem.answer a := by
  intro s m
  refine ⟨by decide, by decide, fun a => ?_⟩
  have hall : everywhere.holds a = true := by
    simp [everywhere, Region.holds, BitVec.le_def]
    omega
  have hm : m.backingAt a = if page.holds a then .device else if everywhere.holds a then .rom else .ram := rfl
  have hs : s.mem.backingAt a = if page.holds a then .device else .ram := rfl
  cases hp : page.holds a <;> simp [hp, hall] at hm hs <;>
    exact ⟨by simp [hm, hs], fun _ => rfl, by simp only [Memory.answer, hm, hs]; rfl⟩

theorem witness_PushThenPopRestores : [(0x0000 : Word), 0x0001, 0xFFFE].all (fun sp =>
    base.mem.wf && decide (base.mem.backingAt (sp - 2) = .ram) && decide (base.mem.backingAt (sp - 2 + 1) = .ram)) =
    true := by decide

theorem witness_CallThenReturnComesBack : [(0x0000 : Word), 0x0001, 0xFFFE].all (fun sp =>
    base.mem.wf && decide ({ base with sp := sp }.mem.backingAt (sp - 2) = .ram) &&
      decide ({ base with sp := sp }.mem.backingAt (sp - 2 + 1) = .ram)) = true := by decide

theorem witness_DecimalAddition : isBcd { base with a := 0x99 }.a = true ∧ isBcd 0x00 = true ∧ isBcd 0x9A = false := by
  decide

end Sys2Proof.Tests
end

section
/-! The view of the instruction set that the proofs below share: which state transformer each instruction
runs, by family of operands. -/

namespace Sys2Proof.Machine

open Sys2Proof Sys2Proof.Claims

/-- `Executes i m`: executing `i` applies `m` to the state. One constructor a family of Sys2Proof/Syntax.lean,
and one for each instruction outside the families; an illegal opcode is named by `Instr.illegal`. -/
inductive Executes : Instr → (State → State) → Prop
  | ld (dst r : Reg8) : Executes (.ld dst r) (loadReg dst r)
  | ldImm (dst : Reg8) (v : Byte) : Executes (.ldImm dst v) (loadImm dst v)
  | ldFromHl (dst : Reg8) : Executes (.ldFromHl dst) (fun s => loadFrom 1 8 dst s.hl s)
  | ldToHl (r : Reg8) : Executes (.ldToHl r) (fun s => storeTo 1 8 s.hl (s.reg r) s)
  | alu (op : AluOp) (r : Reg8) : Executes (.alu op r) (aluReg op r)
  | aluHl (op : AluOp) : Executes (.aluHl op) (aluMem op)
  | aluImm (op : AluOp) (v : Byte) : Executes (.aluImm op v) (aluByte op v)
  | inc (r : Reg8) : Executes (.inc r) (stepReg inc8 false r)
  | dec (r : Reg8) : Executes (.dec r) (stepReg dec8 true r)
  | ldPair (p : Pair) (w : Word) : Executes (.ldPair p w) (loadPair p w)
  | addHl (p : Pair) : Executes (.addHl p) (addToHl p)
  | incPair (p : Pair) : Executes (.incPair p) (incPairBy1 p)
  | decPair (p : Pair) : Executes (.decPair p) (decPairBy1 p)
  | push (p : StackPair) : Executes (.push p) (pushPair p)
  | pop (p : StackPair) : Executes (.pop p) (popPair p)
  | jrIf (cc : Cond) (e : Byte) : Executes (.jrIf cc e) (jumpRelIf cc e)
  | jpIf (cc : Cond) (t : Word) : Executes (.jpIf cc t) (jumpAbsIf cc t)
  | callIf (cc : Cond) (t : Word) : Executes (.callIf cc t) (callAbsIf cc t)
  | retIf (cc : Cond) : Executes (.retIf cc) (returnIf cc)
  | rst (y : BitVec 3) : Executes (.rst y) (restart y)
  | illegal {i : Instr} (h : i.illegal = true) : Executes i (State.raise .illegalOpcode i.opcode)
  | prefixCb : Executes .prefixCb (State.raise .notImplemented 0xCB)
  | jrR8 (e : Byte) : Executes (.jrR8 e) (jumpRel e)
  | jpA16 (t : Word) : Executes (.jpA16 t) (jumpAbs t)
  | jpHl : Executes .jpHl jumpHl
  | callA16 (t : Word) : Executes (.callA16 t) (callAbs t)
  | ret : Executes .ret returnAlways
  | reti : Executes .reti returnAlways
  | ldIndHlD8 (v : Byte) : Executes (.ldIndHlD8 v) (fun s => storeTo 2 12 s.hl v s)
  | ldIndDeA : Executes .ldIndDeA (fun s => storeTo 1 8 s.de s.a s)
  | ldIndCA : Executes .ldIndCA (fun s => storeTo 1 8 (highPage s.c) s.a s)
  | ldhIndA8A (o : Byte) : Executes (.ldhIndA8A o) (fun s => storeTo 2 12 (highPage o) s.a s)
  | ldIndA16A (t : Word) : Executes (.ldIndA16A t) (fun s => storeTo 3 16 t s.a s)
  | ldIndHlIncA : Executes .ldIndHlIncA (storeHlMove 1)
  | ldIndHlDecA : Executes .ldIndHlDecA (storeHlMove (-1))
  | ldIndA16Sp (t : Word) : Executes (.ldIndA16Sp t) (storeSp t)
  | ldAIndBc : Executes .ldAIndBc (fun s => loadFrom 1 8 .a s.bc s)
  | ldAIndDe : Executes .ldAIndDe (fun s => loadFrom 1 8 .a s.de s)
  | ldAIndC : Executes .ldAIndC (fun s => loadFrom 1 8 .a (highPage s.c) s)
  | ldhAIndA8 (o : Byte) : Executes (.ldhAIndA8 o) (fun s => loadFrom 2 12 .a (highPage o) s)
  | ldAIndA16 (t : Word) : Executes (.ldAIndA16 t) (fun s => loadFrom 3 16 .a t s)
  | ldAIndHlInc : Executes .ldAIndHlInc (loadHlMove 1)
  | ldAIndHlDec : Executes .ldAIndHlDec (loadHlMove (-1))
  | ldBcA : Executes .ldBcA widenAIntoBc
  | ldSpHl : Executes .ldSpHl copyHlToSp
  | addSpR8 (e : Byte) : Executes (.addSpR8 e) (addSpOffset e)
  | ldHlSpR8 (e : Byte) : Executes (.ldHlSpR8 e) (loadHlSpOffset e)
  | incIndHl : Executes .incIndHl (stepMem inc8 false)
  | decIndHl : Executes .decIndHl (stepMem dec8 true)
  | rlca : Executes .rlca (fun s => rotateA (shiftLeftIn s.a (s.a.getLsbD 7)) (s.a.getLsbD 7) s)
  | rrca : Executes .rrca (fun s => rotateA (shiftRightIn s.a (s.a.getLsbD 0)) (s.a.getLsbD 0) s)
  | rla : Executes .rla (fun s => rotateA (shiftLeftIn s.a s.flagC) (s.a.getLsbD 7) s)
  | rra : Executes .rra (fun s => rotateA (shiftRightIn s.a s.flagC) (s.a.getLsbD 0) s)
  | daa : Executes .daa decimalAdjust
  | cpl : Executes .cpl complementA
  | scf : Executes .scf (carryOp true)
  | ccf : Executes .ccf (fun s => carryOp (!s.flagC) s)
  | nop : Executes .nop idle
  | di : Executes .di idle
  | ei : Executes .ei idle
  | halt : Executes .halt (stopIn 1 .halted)
  | stop (pad : Byte) : Executes (.stop pad) (stopIn 2 .stopped)

/-- The view covers the 256 rows of the opcode grid (spec/30_encoding.md R90). -/
theorem exists_executes : ∀ i : Instr, ∃ m, Executes i m
  | .ldBB => ⟨_, .ld .b .b⟩ | .ldBC => ⟨_, .ld .b .c⟩ | .ldBD => ⟨_, .ld .b .d⟩ | .ldBE => ⟨_, .ld .b .e⟩
  | .ldBH => ⟨_, .ld .b .h⟩ | .ldBL => ⟨_, .ld .b .l⟩ | .ldBA => ⟨_, .ld .b .a⟩ | .ldCB => ⟨_, .ld .c .b⟩
  | .ldCC => ⟨_, .ld .c .c⟩ | .ldCD => ⟨_, .ld .c .d⟩ | .ldCE => ⟨_, .ld .c .e⟩ | .ldCH => ⟨_, .ld .c .h⟩
  | .ldCL => ⟨_, .ld .c .l⟩ | .ldCA => ⟨_, .ld .c .a⟩ | .ldDB => ⟨_, .ld .d .b⟩ | .ldDC => ⟨_, .ld .d .c⟩
  | .ldDD => ⟨_, .ld .d .d⟩ | .ldDE => ⟨_, .ld .d .e⟩ | .ldDH => ⟨_, .ld .d .h⟩ | .ldDL => ⟨_, .ld .d .l⟩
  | .ldDA => ⟨_, .ld .d .a⟩ | .ldEB => ⟨_, .ld .e .b⟩ | .ldEC => ⟨_, .ld .e .c⟩ | .ldED => ⟨_, .ld .e .d⟩
  | .ldEE => ⟨_, .ld .e .e⟩ | .ldEH => ⟨_, .ld .e .h⟩ | .ldEL => ⟨_, .ld .e .l⟩ | .ldEA => ⟨_, .ld .e .a⟩
  | .ldHB => ⟨_, .ld .h .b⟩ | .ldHC => ⟨_, .ld .h .c⟩ | .ldHD => ⟨_, .ld .h .d⟩ | .ldHE => ⟨_, .ld .h .e⟩
  | .ldHH => ⟨_, .ld .h .h⟩ | .ldHL => ⟨_, .ld .h .l⟩ | .ldHA => ⟨_, .ld .h .a⟩ | .ldLB => ⟨_, .ld .l .b⟩
  | .ldLC => ⟨_, .ld .l .c⟩ | .ldLD => ⟨_, .ld .l .d⟩ | .ldLE => ⟨_, .ld .l .e⟩ | .ldLH => ⟨_, .ld .l .h⟩
  | .ldLL => ⟨_, .ld .l .l⟩ | .ldLA => ⟨_, .ld .l .a⟩ | .ldAB => ⟨_, .ld .a .b⟩ | .ldAC => ⟨_, .ld .a .c⟩
  | .ldAD => ⟨_, .ld .a .d⟩ | .ldAE => ⟨_, .ld .a .e⟩ | .ldAH => ⟨_, .ld .a .h⟩ | .ldAL => ⟨_, .ld .a .l⟩
  | .ldAA => ⟨_, .ld .a .a⟩
  | .ldBD8 v => ⟨_, .ldImm .b v⟩ | .ldCD8 v => ⟨_, .ldImm .c v⟩ | .ldDD8 v => ⟨_, .ldImm .d v⟩
  | .ldED8 v => ⟨_, .ldImm .e v⟩ | .ldHD8 v => ⟨_, .ldImm .h v⟩ | .ldLD8 v => ⟨_, .ldImm .l v⟩
  | .ldAD8 v => ⟨_, .ldImm .a v⟩
  | .ldBIndHl => ⟨_, .ldFromHl .b⟩ | .ldCIndHl => ⟨_, .ldFromHl .c⟩ | .ldDIndHl => ⟨_, .ldFromHl .d⟩
  | .ldEIndHl => ⟨_, .ldFromHl .e⟩ | .ldHIndHl => ⟨_, .ldFromHl .h⟩ | .ldLIndHl => ⟨_, .ldFromHl .l⟩
  | .ldAIndHl => ⟨_, .ldFromHl .a⟩
  | .ldIndHlB => ⟨_, .ldToHl .b⟩ | .ldIndHlC => ⟨_, .ldToHl .c⟩ | .ldIndHlD => ⟨_, .ldToHl .d⟩
  | .ldIndHlE => ⟨_, .ldToHl .e⟩ | .ldIndHlH => ⟨_, .ldToHl .h⟩ | .ldIndHlL => ⟨_, .ldToHl .l⟩
  | .ldIndHlA => ⟨_, .ldToHl .a⟩
  | .addAB => ⟨_, .alu .add .b⟩ | .addAC => ⟨_, .alu .add .c⟩ | .addAD => ⟨_, .alu .add .d⟩
  | .addAE => ⟨_, .alu .add .e⟩ | .addAH => ⟨_, .alu .add .h⟩ | .addAL => ⟨_, .alu .add .l⟩
  | .addAA => ⟨_, .alu .add .a⟩ | .adcAB => ⟨_, .alu .adc .b⟩ | .adcAC => ⟨_, .alu .adc .c⟩
  | .adcAD => ⟨_, .alu .adc .d⟩ | .adcAE => ⟨_, .alu .adc .e⟩ | .adcAH => ⟨_, .alu .adc .h⟩
  | .adcAL => ⟨_, .alu .adc .l⟩ | .adcAA => ⟨_, .alu .adc .a⟩ | .subB => ⟨_, .alu .sub .b⟩
  | .subC => ⟨_, .alu .sub .c⟩ | .subD => ⟨_, .alu .sub .d⟩ | .subE => ⟨_, .alu .sub .e⟩ | .subH => ⟨_, .alu .sub .h⟩
  | .subL => ⟨_, .alu .sub .l⟩ | .subA => ⟨_, .alu .sub .a⟩ | .sbcAB => ⟨_, .alu .sbc .b⟩
  | .sbcAC => ⟨_, .alu .sbc .c⟩ | .sbcAD => ⟨_, .alu .sbc .d⟩ | .sbcAE => ⟨_, .alu .sbc .e⟩
  | .sbcAH => ⟨_, .alu .sbc .h⟩ | .sbcAL => ⟨_, .alu .sbc .l⟩ | .sbcAA => ⟨_, .alu .sbc .a⟩
  | .andB => ⟨_, .alu .and .b⟩ | .andC => ⟨_, .alu .and .c⟩ | .andD => ⟨_, .alu .and .d⟩ | .andE => ⟨_, .alu .and .e⟩
  | .andH => ⟨_, .alu .and .h⟩ | .andL => ⟨_, .alu .and .l⟩ | .andA => ⟨_, .alu .and .a⟩ | .xorB => ⟨_, .alu .xor .b⟩
  | .xorC => ⟨_, .alu .xor .c⟩ | .xorD => ⟨_, .alu .xor .d⟩ | .xorE => ⟨_, .alu .xor .e⟩ | .xorH => ⟨_, .alu .xor .h⟩
  | .xorL => ⟨_, .alu .xor .l⟩ | .xorA => ⟨_, .alu .xor .a⟩ | .orB => ⟨_, .alu .or .b⟩ | .orC => ⟨_, .alu .or .c⟩
  | .orD => ⟨_, .alu .or .d⟩ | .orE => ⟨_, .alu .or .e⟩ | .orH => ⟨_, .alu .or .h⟩ | .orL => ⟨_, .alu .or .l⟩
  | .orA => ⟨_, .alu .or .a⟩ | .cpB => ⟨_, .alu .cp .b⟩ | .cpC => ⟨_, .alu .cp .c⟩ | .cpD => ⟨_, .alu .cp .d⟩
  | .cpE => ⟨_, .alu .cp .e⟩ | .cpH => ⟨_, .alu .cp .h⟩ | .cpL => ⟨_, .alu .cp .l⟩ | .cpA => ⟨_, .alu .cp .a⟩
  | .addAIndHl => ⟨_, .aluHl .add⟩ | .adcAIndHl => ⟨_, .aluHl .adc⟩ | .subIndHl => ⟨_, .aluHl .sub⟩
  | .sbcAIndHl => ⟨_, .aluHl .sbc⟩ | .andIndHl => ⟨_, .aluHl .and⟩ | .xorIndHl => ⟨_, .aluHl .xor⟩
  | .orIndHl => ⟨_, .aluHl .or⟩ | .cpIndHl => ⟨_, .aluHl .cp⟩
  | .addAD8 v => ⟨_, .aluImm .add v⟩ | .adcAD8 v => ⟨_, .aluImm .adc v⟩ | .subD8 v => ⟨_, .aluImm .sub v⟩
  | .sbcAD8 v => ⟨_, .aluImm .sbc v⟩ | .andD8 v => ⟨_, .aluImm .and v⟩ | .xorD8 v => ⟨_, .aluImm .xor v⟩
  | .orD8 v => ⟨_, .aluImm .or v⟩ | .cpD8 v => ⟨_, .aluImm .cp v⟩
  | .incB => ⟨_, .inc .b⟩ | .incC => ⟨_, .inc .c⟩ | .incD => ⟨_, .inc .d⟩ | .incE => ⟨_, .inc .e⟩
  | .incH => ⟨_, .inc .h⟩ | .incL => ⟨_, .inc .l⟩ | .incA => ⟨_, .inc .a⟩
  | .decB => ⟨_, .dec .b⟩ | .decC => ⟨_, .dec .c⟩ | .decD => ⟨_, .dec .d⟩ | .decE => ⟨_, .dec .e⟩
  | .decH => ⟨_, .dec .h⟩ | .decL => ⟨_, .dec .l⟩ | .decA => ⟨_, .dec .a⟩
  | .ldBcD16 w => ⟨_, .ldPair .bc w⟩ | .ldDeD16 w => ⟨_, .ldPair .de w⟩ | .ldHlD16 w => ⟨_, .ldPair .hl w⟩
  | .ldSpD16 w => ⟨_, .ldPair .sp w⟩
  | .addHlBc => ⟨_, .addHl .bc⟩ | .addHlDe => ⟨_, .addHl .de⟩ | .addHlHl => ⟨_, .addHl .hl⟩
  | .addHlSp => ⟨_, .addHl .sp⟩
  | .incBc => ⟨_, .incPair .bc⟩ | .incDe => ⟨_, .incPair .de⟩ | .incHl => ⟨_, .incPair .hl⟩
  | .incSp => ⟨_, .incPair .sp⟩
  | .decBc => ⟨_, .decPair .bc⟩ | .decDe => ⟨_, .decPair .de⟩ | .decHl => ⟨_, .decPair .hl⟩
  | .decSp => ⟨_, .decPair .sp⟩
  | .pushBc => ⟨_, .push .bc⟩ | .pushDe => ⟨_, .push .de⟩ | .pushHl => ⟨_, .push .hl⟩ | .pushAf => ⟨_, .push .af⟩
  | .popBc => ⟨_, .pop .bc⟩ | .popDe => ⟨_, .pop .de⟩ | .popHl => ⟨_, .pop .hl⟩ | .popAf => ⟨_, .pop .af⟩
  | .jrNzR8 e => ⟨_, .jrIf .nz e⟩ | .jrZR8 e => ⟨_, .jrIf .z e⟩ | .jrNcR8 e => ⟨_, .jrIf .nc e⟩
  | .jrCR8 e => ⟨_, .jrIf .c e⟩
  | .jpNzA16 t => ⟨_, .jpIf .nz t⟩ | .jpZA16 t => ⟨_, .jpIf .z t⟩ | .jpNcA16 t => ⟨_, .jpIf .nc t⟩
  | .jpCA16 t => ⟨_, .jpIf .c t⟩
  | .callNzA16 t => ⟨_, .callIf .nz t⟩ | .callZA16 t => ⟨_, .callIf .z t⟩ | .callNcA16 t => ⟨_, .callIf .nc t⟩
  | .callCA16 t => ⟨_, .callIf .c t⟩
  | .retNz => ⟨_, .retIf .nz⟩ | .retZ => ⟨_, .retIf .z⟩ | .retNc => ⟨_, .retIf .nc⟩ | .retC => ⟨_, .retIf .c⟩
  | .rst00 => ⟨_, .rst 0⟩ | .rst08 => ⟨_, .rst 1⟩ | .rst10 => ⟨_, .rst 2⟩ | .rst18 => ⟨_, .rst 3⟩
  | .rst20 => ⟨_, .rst 4⟩ | .rst28 => ⟨_, .rst 5⟩ | .rst30 => ⟨_, .rst 6⟩ | .rst38 => ⟨_, .rst 7⟩
  | .illegalD3 => ⟨_, .illegal rfl⟩ | .illegalDB => ⟨_, .illegal rfl⟩ | .illegalDD => ⟨_, .illegal rfl⟩
  | .illegalE3 => ⟨_, .illegal rfl⟩ | .illegalE4 => ⟨_, .illegal rfl⟩ | .illegalEB => ⟨_, .illegal rfl⟩
  | .illegalEC => ⟨_, .illegal rfl⟩ | .illegalED => ⟨_, .illegal rfl⟩ | .illegalF4 => ⟨_, .illegal rfl⟩
  | .illegalFC => ⟨_, .illegal rfl⟩ | .illegalFD => ⟨_, .illegal rfl⟩
  | .prefixCb => ⟨_, .prefixCb⟩ | .jrR8 e => ⟨_, .jrR8 e⟩ | .jpA16 t => ⟨_, .jpA16 t⟩ | .jpHl => ⟨_, .jpHl⟩
  | .callA16 t => ⟨_, .callA16 t⟩ | .ret => ⟨_, .ret⟩ | .reti => ⟨_, .reti⟩ | .ldIndHlD8 v => ⟨_, .ldIndHlD8 v⟩
  | .ldIndDeA => ⟨_, .ldIndDeA⟩ | .ldIndCA => ⟨_, .ldIndCA⟩ | .ldhIndA8A o => ⟨_, .ldhIndA8A o⟩
  | .ldIndA16A t => ⟨_, .ldIndA16A t⟩ | .ldIndHlIncA => ⟨_, .ldIndHlIncA⟩ | .ldIndHlDecA => ⟨_, .ldIndHlDecA⟩
  | .ldIndA16Sp t => ⟨_, .ldIndA16Sp t⟩ | .ldAIndBc => ⟨_, .ldAIndBc⟩ | .ldAIndDe => ⟨_, .ldAIndDe⟩
  | .ldAIndC => ⟨_, .ldAIndC⟩ | .ldhAIndA8 o => ⟨_, .ldhAIndA8 o⟩ | .ldAIndA16 t => ⟨_, .ldAIndA16 t⟩
  | .ldAIndHlInc => ⟨_, .ldAIndHlInc⟩ | .ldAIndHlDec => ⟨_, .ldAIndHlDec⟩ | .ldBcA => ⟨_, .ldBcA⟩
  | .ldSpHl => ⟨_, .ldSpHl⟩ | .addSpR8 e => ⟨_, .addSpR8 e⟩ | .ldHlSpR8 e => ⟨_, .ldHlSpR8 e⟩
  | .incIndHl => ⟨_, .incIndHl⟩ | .decIndHl => ⟨_, .decIndHl⟩ | .rlca => ⟨_, .rlca⟩ | .rrca => ⟨_, .rrca⟩
  | .rla => ⟨_, .rla⟩ | .rra => ⟨_, .rra⟩ | .daa => ⟨_, .daa⟩ | .cpl => ⟨_, .cpl⟩ | .scf => ⟨_, .scf⟩
  | .ccf => ⟨_, .ccf⟩ | .nop => ⟨_, .nop⟩ | .di => ⟨_, .di⟩ | .ei => ⟨_, .ei⟩ | .halt => ⟨_, .halt⟩
  | .stop pad => ⟨_, .stop pad⟩

/-- An illegal row faults with its own opcode byte (spec/60_exceptions.md R301). -/
theorem exec_illegal {i : Instr} (h : i.illegal = true) (s : State) :
    exec i s = .next (s.raise .illegalOpcode i.opcode) := by
  unfold Instr.illegal at h
  split at h
  case h_12 => cases h
  all_goals rfl

/-- `exec` applies the transformer that the view names. -/
theorem Executes.exec_eq {i : Instr} {m : State → State} (h : Executes i m) (s : State) :
    exec i s = .next (m s) := by
  cases h with
  | ld dst r => exact exec_ld dst r s
  | ldImm dst v => exact exec_ldImm dst v s
  | ldFromHl dst => exact exec_ldFromHl dst s
  | ldToHl r => exact exec_ldToHl r s
  | alu op r => exact exec_alu op r s
  | aluHl op => exact exec_aluHl op s
  | aluImm op v => exact exec_aluImm op v s
  | inc r => exact exec_inc r s
  | dec r => exact exec_dec r s
  | ldPair p w => exact exec_ldPair p w s
  | addHl p => exact exec_addHl p s
  | incPair p => exact exec_incPair p s
  | decPair p => exact exec_decPair p s
  | push p => exact exec_push p s
  | pop p => exact exec_pop p s
  | jrIf cc e => exact exec_jrIf cc e s
  | jpIf cc t => exact exec_jpIf cc t s
  | callIf cc t => exact exec_callIf cc t s
  | retIf cc => exact exec_retIf cc s
  | rst y => exact exec_rst y s
  | illegal hi => exact exec_illegal hi s
  | _ => rfl

end Sys2Proof.Machine
end

section
/-! What each named operation of the state keeps: the invariant, the registers, SP and PC. -/

namespace Sys2Proof

/-- The 8-bit registers that a pair consists of (spec/10_state.md R22). -/
def Pair.regs : Pair → List Reg8
  | .bc => [.b, .c] | .de => [.d, .e] | .hl => [.h, .l] | .sp => []

/-- The 8-bit registers of a stack pair; F is not one of them (R25). -/
def StackPair.regs : StackPair → List Reg8
  | .bc => [.b, .c] | .de => [.d, .e] | .hl => [.h, .l] | .af => [.a]

/-- The register an 8-bit ALU operation writes: CP writes none (spec/41_alu8.md R134). -/
def AluOp.regs : AluOp → List Reg8
  | .cp => [] | _ => [.a]

end Sys2Proof

namespace Sys2Proof.Machine

open Sys2Proof Sys2Proof.Claims

-- the invariant

section
variable {s : State}

@[simp] theorem State.inv_setA (v : Byte) (s : State) : (s.setA v).inv = s.inv := rfl
@[simp] theorem State.inv_setSp (v : Word) (s : State) : (s.setSp v).inv = s.inv := rfl
@[simp] theorem State.inv_setPc (v : Word) (s : State) : (s.setPc v).inv = s.inv := rfl
@[simp] theorem State.inv_setBc (v : Word) (s : State) : (s.setBc v).inv = s.inv := rfl
@[simp] theorem State.inv_setDe (v : Word) (s : State) : (s.setDe v).inv = s.inv := rfl
@[simp] theorem State.inv_setHl (v : Word) (s : State) : (s.setHl v).inv = s.inv := rfl
@[simp] theorem State.inv_advance (n : Nat) (s : State) : (s.advance n).inv = s.inv := rfl
@[simp] theorem State.inv_beginStep (s : State) : s.beginStep.inv = s.inv := rfl
@[simp] theorem State.inv_setReg (r : Reg8) (v : Byte) (s : State) : (s.setReg r v).inv = s.inv := by
  cases r <;> rfl
@[simp] theorem State.inv_setPair (p : Pair) (v : Word) (s : State) : (s.setPair p v).inv = s.inv := by
  cases p <;> rfl

/-- A flag update writes F's low nibble as 0 (spec/10_state.md R27). -/
@[simp] theorem State.inv_setFlags (z n h c : Option Bool) (hs : s.inv = true) :
    (s.setFlags z n h c).inv = true := by
  obtain ⟨-, hcycles, hmode, hmem⟩ := s.inv_iff.mp hs
  exact (State.inv_iff _).mpr ⟨packFlags_low .., hcycles, hmode, hmem⟩

/-- A write of AF drops F's low nibble (R26). -/
@[simp] theorem State.inv_setStackPair (p : StackPair) (v : Word) (hs : s.inv = true) :
    (s.setStackPair p v).inv = true := by
  obtain ⟨-, hcycles, hmode, hmem⟩ := s.inv_iff.mp hs
  cases p with
  | af => exact (State.inv_iff _).mpr ⟨maskF_low _, hcycles, hmode, hmem⟩
  | bc | de | hl => exact hs

/-- Every cost is a multiple of 4 (R32). -/
@[simp] theorem State.inv_tick {k : Nat} (hk : k % 4 = 0) (s : State) : (s.tick k).inv = s.inv := by
  rw [Bool.eq_iff_iff, State.inv_iff, State.inv_iff]
  simp [Nat.add_mod, hk]

/-- A read request changes no stored byte (spec/20_memory.md R52). -/
@[simp] theorem State.inv_afterRead (x : Word) (s : State) : (s.afterRead x).inv = s.inv := by
  rw [Bool.eq_iff_iff, State.inv_iff, State.inv_iff]
  simp [Memory.wf, Memory.afterRead_spec]

@[simp] theorem State.inv_writeByte (x : Word) (v : Byte) (hs : s.inv = true) :
    (s.writeByte x v).inv = true := by
  obtain ⟨hf, hcycles, hmode, hmem⟩ := s.inv_iff.mp hs
  exact (State.inv_iff _).mpr ⟨hf, hcycles, hmode, Memory.wf_store x v hmem⟩

@[simp] theorem State.inv_haltFsm (m : Mode) (hm : m.consistent = true) (hs : s.inv = true) :
    (s.haltFsm m).inv = true := by
  obtain ⟨hf, hcycles, -, hmem⟩ := s.inv_iff.mp hs
  exact (State.inv_iff _).mpr ⟨hf, hcycles, hm, hmem⟩

/-- Taking an exception is stopping in the Faulted mode. -/
@[simp] theorem State.inv_raise (k : FaultCause) (op : Byte) (hm : (Mode.faulted k op).consistent = true)
    (hs : s.inv = true) : (s.raise k op).inv = true :=
  State.inv_haltFsm (.faulted k op) hm hs

@[simp] theorem State.inv_writeWord (x v : Word) (hs : s.inv = true) : (s.writeWord x v).inv = true := by
  simp [State.writeWord, hs]

@[simp] theorem State.inv_push16 (v : Word) (hs : s.inv = true) : (s.push16 v).inv = true := by
  simp [State.push16, hs]

@[simp] theorem State.inv_afterPop (s : State) : s.afterPop.inv = s.inv := by
  simp [State.afterPop, State.afterReadWord]

@[simp] theorem State.inv_jumpBy (e : Byte) (s : State) : (s.jumpBy e).inv = s.inv := rfl

@[simp] theorem State.inv_callTo (t : Word) (hs : s.inv = true) : (s.callTo t).inv = true := by
  simp [State.callTo, hs]

@[simp] theorem State.inv_returnPop (s : State) : s.returnPop.inv = s.inv := by
  simp [State.returnPop]

@[simp] theorem State.inv_flagsOf (r : Sum8) (n : Bool) (hs : s.inv = true) : (s.flagsOf r n).inv = true :=
  State.inv_setFlags _ _ _ _ hs

@[simp] theorem State.inv_alu (op : AluOp) (v : Byte) (hs : s.inv = true) : (s.alu op v).inv = true := by
  cases op with
  | add | adc | sub | sbc | cp => simp [State.alu, hs]
  | and | xor | or => simp [State.alu, State.bitwise, hs]

end

/-- The opcode of an illegal row is one of the 11 of spec/30_encoding.md R91. -/
theorem opcode_mem_illegalOpcodes {i : Instr} (h : i.illegal = true) : i.opcode ∈ illegalOpcodes := by
  unfold Instr.illegal at h
  split at h
  case h_12 => cases h
  all_goals decide

-- F, SP and PC of the operations that Sys2Proof/Laws/State.lean does not list

@[simp] theorem State.flagsOf_pc (r : Sum8) (n : Bool) (s : State) : (s.flagsOf r n).pc = s.pc := rfl
@[simp] theorem State.flagsOf_sp (r : Sum8) (n : Bool) (s : State) : (s.flagsOf r n).sp = s.sp := rfl
@[simp] theorem State.alu_pc (op : AluOp) (v : Byte) (s : State) : (s.alu op v).pc = s.pc := by
  cases op <;> rfl
@[simp] theorem State.alu_sp (op : AluOp) (v : Byte) (s : State) : (s.alu op v).sp = s.sp := by
  cases op <;> rfl
@[simp] theorem State.push16_f (v : Word) (s : State) : (s.push16 v).f = s.f := rfl
@[simp] theorem State.push16_pc (v : Word) (s : State) : (s.push16 v).pc = s.pc := rfl
@[simp] theorem State.afterPop_f (s : State) : s.afterPop.f = s.f := rfl
@[simp] theorem State.afterPop_pc (s : State) : s.afterPop.pc = s.pc := rfl
@[simp] theorem State.jumpBy_f (e : Byte) (s : State) : (s.jumpBy e).f = s.f := rfl
@[simp] theorem State.jumpBy_sp (e : Byte) (s : State) : (s.jumpBy e).sp = s.sp := rfl
@[simp] theorem State.callTo_f (t : Word) (s : State) : (s.callTo t).f = s.f := rfl
@[simp] theorem State.returnPop_f (s : State) : s.returnPop.f = s.f := rfl
@[simp] theorem State.writeWord_f (x v : Word) (s : State) : (s.writeWord x v).f = s.f := rfl
@[simp] theorem State.writeWord_sp (x v : Word) (s : State) : (s.writeWord x v).sp = s.sp := rfl
@[simp] theorem State.writeWord_pc (x v : Word) (s : State) : (s.writeWord x v).pc = s.pc := rfl

-- the 8-bit registers

@[simp] theorem State.reg_setSp (r : Reg8) (v : Word) (s : State) : (s.setSp v).reg r = s.reg r := rfl
@[simp] theorem State.reg_setPc (r : Reg8) (v : Word) (s : State) : (s.setPc v).reg r = s.reg r := rfl
@[simp] theorem State.reg_advance (r : Reg8) (n : Nat) (s : State) : (s.advance n).reg r = s.reg r := rfl
@[simp] theorem State.reg_tick (r : Reg8) (k : Nat) (s : State) : (s.tick k).reg r = s.reg r := rfl
@[simp] theorem State.reg_afterRead (r : Reg8) (x : Word) (s : State) : (s.afterRead x).reg r = s.reg r := rfl
@[simp] theorem State.reg_writeByte (r : Reg8) (x : Word) (v : Byte) (s : State) :
    (s.writeByte x v).reg r = s.reg r := rfl
@[simp] theorem State.reg_writeWord (r : Reg8) (x v : Word) (s : State) :
    (s.writeWord x v).reg r = s.reg r := by
  simp [State.writeWord]
@[simp] theorem State.reg_push16 (r : Reg8) (v : Word) (s : State) : (s.push16 v).reg r = s.reg r := by
  simp [State.push16]
@[simp] theorem State.reg_afterPop (r : Reg8) (s : State) : s.afterPop.reg r = s.reg r := by
  simp [State.afterPop, State.afterReadWord]
@[simp] theorem State.reg_jumpBy (r : Reg8) (e : Byte) (s : State) : (s.jumpBy e).reg r = s.reg r := rfl
@[simp] theorem State.reg_callTo (r : Reg8) (t : Word) (s : State) : (s.callTo t).reg r = s.reg r := by
  simp [State.callTo]
@[simp] theorem State.reg_returnPop (r : Reg8) (s : State) : s.returnPop.reg r = s.reg r := by
  simp [State.returnPop]
@[simp] theorem State.reg_setFlags (r : Reg8) (z n h c : Option Bool) (s : State) :
    (s.setFlags z n h c).reg r = s.reg r := rfl
@[simp] theorem State.reg_flagsOf (r : Reg8) (x : Sum8) (n : Bool) (s : State) :
    (s.flagsOf x n).reg r = s.reg r := rfl
@[simp] theorem State.reg_haltFsm (r : Reg8) (m : Mode) (s : State) : (s.haltFsm m).reg r = s.reg r := rfl
@[simp] theorem State.reg_raise (r : Reg8) (k : FaultCause) (op : Byte) (s : State) :
    (s.raise k op).reg r = s.reg r := rfl

theorem State.reg_setReg_of_ne {q r : Reg8} (h : q ≠ r) (v : Byte) (s : State) :
    (s.setReg r v).reg q = s.reg q := by
  rw [State.reg_setReg, if_neg h]

theorem State.reg_setA_of_ne {r : Reg8} (h : r ≠ .a) (v : Byte) (s : State) : (s.setA v).reg r = s.reg r :=
  State.reg_setReg_of_ne h v s

theorem State.reg_setBc_of_ne {r : Reg8} (hb : r ≠ .b) (hc : r ≠ .c) (v : Word) (s : State) :
    (s.setBc v).reg r = s.reg r :=
  (State.reg_setReg_of_ne hb (hi8 v) (s.setReg .c (lo8 v))).trans (State.reg_setReg_of_ne hc _ s)

theorem State.reg_setDe_of_ne {r : Reg8} (hd : r ≠ .d) (he : r ≠ .e) (v : Word) (s : State) :
    (s.setDe v).reg r = s.reg r :=
  (State.reg_setReg_of_ne hd (hi8 v) (s.setReg .e (lo8 v))).trans (State.reg_setReg_of_ne he _ s)

theorem State.reg_setHl_of_ne {r : Reg8} (hh : r ≠ .h) (hl : r ≠ .l) (v : Word) (s : State) :
    (s.setHl v).reg r = s.reg r :=
  (State.reg_setReg_of_ne hh (hi8 v) (s.setReg .l (lo8 v))).trans (State.reg_setReg_of_ne hl _ s)

theorem ne_of_notMem_pair {r q₁ q₂ : Reg8} (h : r ∉ [q₁, q₂]) : r ≠ q₁ ∧ r ≠ q₂ := by
  simpa only [List.mem_cons, List.not_mem_nil, or_false, not_or] using h

theorem State.reg_setPair_of_notMem {p : Pair} {r : Reg8} (h : r ∉ p.regs) (v : Word) (s : State) :
    (s.setPair p v).reg r = s.reg r := by
  cases p with
  | bc => obtain ⟨hb, hc⟩ := ne_of_notMem_pair h; exact State.reg_setBc_of_ne hb hc v s
  | de => obtain ⟨hd, he⟩ := ne_of_notMem_pair h; exact State.reg_setDe_of_ne hd he v s
  | hl => obtain ⟨hh, hl⟩ := ne_of_notMem_pair h; exact State.reg_setHl_of_ne hh hl v s
  | sp => rfl

theorem State.reg_setStackPair_of_notMem {p : StackPair} {r : Reg8} (h : r ∉ p.regs) (v : Word) (s : State) :
    (s.setStackPair p v).reg r = s.reg r := by
  cases p with
  | bc => obtain ⟨hb, hc⟩ := ne_of_notMem_pair h; exact State.reg_setBc_of_ne hb hc v s
  | de => obtain ⟨hd, he⟩ := ne_of_notMem_pair h; exact State.reg_setDe_of_ne hd he v s
  | hl => obtain ⟨hh, hl⟩ := ne_of_notMem_pair h; exact State.reg_setHl_of_ne hh hl v s
  | af => exact State.reg_setA_of_ne (List.ne_of_not_mem_cons h) (hi8 v) s

theorem State.reg_alu_of_notMem {op : AluOp} {r : Reg8} (h : r ∉ op.regs) (v : Byte) (s : State) :
    (s.alu op v).reg r = s.reg r := by
  cases op with
  | cp => rfl
  | add | adc | sub | sbc | and | xor | or => exact State.reg_setA_of_ne (List.ne_of_not_mem_cons h) _ s

end Sys2Proof.Machine
end

section
/-! The step keeps the invariant (spec/10_state.md R24, R26, R27, R32; spec/60_exceptions.md R300). -/

namespace Sys2Proof.Machine

open Sys2Proof Sys2Proof.Claims

theorem inv_stopIn (n : Nat) {m : Mode} (hm : m.consistent = true) {s : State} (hs : s.inv = true) :
    (stopIn n m s).inv = true := by
  simp [stopIn, hm, hs]

theorem inv_storeHlMove (d : Word) {s : State} (hs : s.inv = true) : (storeHlMove d s).inv = true := by
  simp [storeHlMove, storeTo, hs]

/-- Every meaning keeps the invariant: it is a composition of operations that do. -/
theorem Executes.inv {i : Instr} {m : State → State} (h : Executes i m) {s : State} (hs : s.inv = true) :
    (m s).inv = true := by
  cases h with
  | ld => simp [loadReg, hs]
  | ldImm => simp [loadImm, hs]
  | ldPair => simp [loadPair, hs]
  | ldBcA => simp [widenAIntoBc, hs]
  | ldSpHl => simp [copyHlToSp, hs]
  | ldFromHl | ldAIndBc | ldAIndDe | ldAIndC | ldhAIndA8 | ldAIndA16 => simp [loadFrom, hs]
  | ldAIndHlInc | ldAIndHlDec => simp [loadHlMove, loadFrom, hs]
  | ldToHl | ldIndHlD8 | ldIndDeA | ldIndCA | ldhIndA8A | ldIndA16A => simp [storeTo, hs]
  | ldIndHlIncA | ldIndHlDecA => exact inv_storeHlMove _ hs
  | ldIndA16Sp => simp [storeSp, hs]
  | alu => simp [aluReg, hs]
  | aluHl => simp [aluMem, hs]
  | aluImm => simp [aluByte, hs]
  | inc | dec => simp [stepReg, hs]
  | incIndHl | decIndHl => simp [stepMem, hs]
  | addHl => simp [addToHl, hs]
  | incPair => simp [incPairBy1, hs]
  | decPair => simp [decPairBy1, hs]
  | addSpR8 => simp [addSpOffset, State.spPlusFlags, hs]
  | ldHlSpR8 => simp [loadHlSpOffset, State.spPlusFlags, hs]
  | rlca | rrca | rla | rra => simp [rotateA, hs]
  | daa => simp [decimalAdjust, hs]
  | cpl => simp [complementA, hs]
  | scf | ccf => simp [carryOp, hs]
  | push => simp [pushPair, hs]
  | pop => simp [popPair, hs]
  | jrR8 => simp [jumpRel, hs]
  | jrIf => unfold jumpRelIf; split <;> simp [hs]
  | jpA16 => simp [jumpAbs, hs]
  | jpHl => simp [jumpHl, hs]
  | jpIf => unfold jumpAbsIf; split <;> simp [hs]
  | callA16 => simp [callAbs, hs]
  | callIf => unfold callAbsIf; split <;> simp [hs]
  | ret | reti => simp [returnAlways, hs]
  | retIf => unfold returnIf; split <;> simp [hs]
  | rst => simp [restart, hs]
  | nop | di | ei => simp [idle, hs]
  | halt | stop => exact inv_stopIn _ rfl hs
  | prefixCb => simp [Mode.consistent, hs]
  | illegal hi => exact State.inv_raise _ _ (List.contains_iff_mem.mpr (opcode_mem_illegalOpcodes hi)) hs

theorem exec_inv {i : Instr} {s t : State} (hs : s.inv = true) (h : exec i s = .next t) : t.inv = true := by
  obtain ⟨m, hm⟩ := exists_executes i
  cases (hm.exec_eq s).symm.trans h
  exact hm.inv hs

/-- A fetch changes no field that the invariant reads but the device's state. -/
theorem afterFetch_inv {s : State} (hs : s.inv = true) : (afterFetch s).inv = true := by
  obtain ⟨n, bus, e⟩ := afterFetch_spec s
  rw [e]
  exact hs

/-- Settles O46: in the Running mode the step is a fetch and a meaning, each of which keeps the invariant. -/
theorem invariantKeptByStep : Obligations.InvariantKeptByStep := by
  intro s t hs h
  by_cases hrun : s.mode = .running
  · rw [step_running s hrun] at h
    have hfetch : (afterFetch s.beginStep).inv = true := afterFetch_inv (s.inv_beginStep.trans hs)
    exact exec_inv hfetch h
  · cases (step_of_not_running s hrun).symm.trans h
    exact hs

/-- Settles O45, clause by clause. -/
theorem invariantHoldsAtReset : Obligations.InvariantHoldsAtReset :=
  (State.inv_iff _).mpr ⟨by decide, by decide, rfl, State.reset_mem_wf⟩

end Sys2Proof.Machine
end

section
/-! The views of the register file and the flag update (spec/10_state.md R22, R24, R26, R27). -/

namespace Sys2Proof.Machine

open Sys2Proof Sys2Proof.Claims

@[simp] theorem State.pair_setPair (p : Pair) (w : Word) (s : State) : (s.setPair p w).pair p = w := by
  cases p with
  | sp => rfl
  | bc | de | hl => exact wordOf_hi8_lo8 w

/-- What AF holds after a write: the word without F's low nibble (R26). -/
theorem wordOf_hi8_maskF_lo8 (w : Word) : wordOf (hi8 w) (maskF (lo8 w)) = w &&& 0xFFF0 := by
  have split_mask : (0xFFF0 : Word) = wordOf 0xFF 0xF0 := by decide
  calc wordOf (hi8 w) (maskF (lo8 w))
      = wordOf (hi8 w &&& 0xFF) (lo8 w &&& 0xF0) := by
        rw [show (0xFF : Byte) = BitVec.allOnes 8 from rfl, BitVec.and_allOnes, maskF]
    _ = wordOf (hi8 w) (lo8 w) &&& wordOf 0xFF 0xF0 := BitVec.and_append.symm
    _ = w &&& 0xFFF0 := by rw [wordOf_hi8_lo8, split_mask]

/-- Settles O38: reading back is `reg_setReg` and `pair_setPair`, a write of AF masks F, and the other
clauses say which storage a view reads. -/
theorem registerFileViews : Obligations.RegisterFileViews := by
  intro s r q p v w
  exact ⟨State.reg_setReg r q v s, State.pair_setPair p w s, rfl, rfl, rfl, rfl, rfl, rfl, rfl,
    wordOf_hi8_maskF_lo8 w, rfl, rfl, rfl, rfl, rfl, rfl, rfl⟩

/-- The flag byte as a number: Z, N, H and C have weights 128, 64, 32 and 16 (R24). -/
theorem packFlags_toNat (z n h c : Bool) :
    (packFlags z n h c).toNat = 128 * z.toNat + 64 * n.toNat + 32 * h.toNat + 16 * c.toNat := by
  revert z n h c; decide

/-- Settles O39: the four flags are what the update gives, and F is packed from them. -/
theorem flagUpdateWritesGivenFlags : Obligations.FlagUpdateWritesGivenFlags := by
  intro s z n h c t
  have hz : t.flagZ = z.getD s.flagZ := State.flagZ_setFlags z n h c s
  have hn : t.flagN = n.getD s.flagN := State.flagN_setFlags z n h c s
  have hh : t.flagH = h.getD s.flagH := State.flagH_setFlags z n h c s
  have hc : t.flagC = c.getD s.flagC := State.flagC_setFlags z n h c s
  refine ⟨hz, hn, hh, hc, ?_, rfl⟩
  rw [hz, hn, hh, hc]
  exact packFlags_toNat ..

end Sys2Proof.Machine
end

section
/-! What the tables of the statements say of a family of instructions. -/

namespace Sys2Proof.Machine

open Sys2Proof Sys2Proof.Claims

-- the registers written (spec/10_state.md R23)

theorem dest_ld (dst r : Reg8) : dest (.ld dst r) = [dst] := by cases dst <;> cases r <;> rfl
theorem dest_ldImm (dst : Reg8) (v : Byte) : dest (.ldImm dst v) = [dst] := by cases dst <;> rfl
theorem dest_ldFromHl (dst : Reg8) : dest (.ldFromHl dst) = [dst] := by cases dst <;> rfl
theorem dest_alu (op : AluOp) (r : Reg8) : dest (.alu op r) = op.regs := by cases op <;> cases r <;> rfl
theorem dest_aluHl (op : AluOp) : dest (.aluHl op) = op.regs := by cases op <;> rfl
theorem dest_aluImm (op : AluOp) (v : Byte) : dest (.aluImm op v) = op.regs := by cases op <;> rfl
theorem dest_inc (r : Reg8) : dest (.inc r) = [r] := by cases r <;> rfl
theorem dest_dec (r : Reg8) : dest (.dec r) = [r] := by cases r <;> rfl
theorem dest_ldPair (p : Pair) (w : Word) : dest (.ldPair p w) = p.regs := by cases p <;> rfl
theorem dest_addHl (p : Pair) : dest (.addHl p) = [.h, .l] := by cases p <;> rfl
theorem dest_incPair (p : Pair) : dest (.incPair p) = p.regs := by cases p <;> rfl
theorem dest_decPair (p : Pair) : dest (.decPair p) = p.regs := by cases p <;> rfl
theorem dest_pop (p : StackPair) : dest (.pop p) = p.regs := by cases p <;> rfl

-- the flags written (R28)

theorem flagsWritten_alu (op : AluOp) (r : Reg8) : flagsWritten (.alu op r) = (true, true, true, true) := by
  cases op <;> cases r <;> rfl
theorem flagsWritten_aluHl (op : AluOp) : flagsWritten (.aluHl op) = (true, true, true, true) := by
  cases op <;> rfl
theorem flagsWritten_aluImm (op : AluOp) (v : Byte) :
    flagsWritten (.aluImm op v) = (true, true, true, true) := by
  cases op <;> rfl
theorem flagsWritten_inc (r : Reg8) : flagsWritten (.inc r) = (true, true, true, true) := by cases r <;> rfl
theorem flagsWritten_dec (r : Reg8) : flagsWritten (.dec r) = (true, true, true, true) := by cases r <;> rfl
theorem flagsWritten_addHl (p : Pair) : flagsWritten (.addHl p) = (false, true, true, true) := by
  cases p <;> rfl

-- the writers of SP and PC

theorem writesSp_push (p : StackPair) : writesSp (.push p) = true := by cases p <;> rfl
theorem writesSp_pop (p : StackPair) : writesSp (.pop p) = true := by cases p <;> rfl
theorem writesSp_callIf (cc : Cond) (t : Word) : writesSp (.callIf cc t) = true := by cases cc <;> rfl
theorem writesSp_retIf (cc : Cond) : writesSp (.retIf cc) = true := by cases cc <;> rfl
theorem writesSp_rst (y : BitVec 3) : writesSp (.rst y) = true := by revert y; decide
theorem writesPc_jrIf (cc : Cond) (e : Byte) : writesPc (.jrIf cc e) = true := by cases cc <;> rfl
theorem writesPc_jpIf (cc : Cond) (t : Word) : writesPc (.jpIf cc t) = true := by cases cc <;> rfl
theorem writesPc_callIf (cc : Cond) (t : Word) : writesPc (.callIf cc t) = true := by cases cc <;> rfl
theorem writesPc_retIf (cc : Cond) : writesPc (.retIf cc) = true := by cases cc <;> rfl
theorem writesPc_rst (y : BitVec 3) : writesPc (.rst y) = true := by revert y; decide

/-- The instruction has a defined behaviour, and its encoding is `n` bytes long (spec/30_encoding.md R93, R99). -/
def DefinedWithLength (i : Instr) (n : Nat) : Prop := i.wellFormed = true ∧ (encode i).length = n

theorem definedWithLength_ld (dst r : Reg8) : DefinedWithLength (.ld dst r) 1 := by
  cases dst <;> cases r <;> exact ⟨rfl, rfl⟩
theorem definedWithLength_ldImm (dst : Reg8) (v : Byte) : DefinedWithLength (.ldImm dst v) 2 := by
  cases dst <;> exact ⟨rfl, rfl⟩
theorem definedWithLength_ldFromHl (dst : Reg8) : DefinedWithLength (.ldFromHl dst) 1 := by
  cases dst <;> exact ⟨rfl, rfl⟩
theorem definedWithLength_ldToHl (r : Reg8) : DefinedWithLength (.ldToHl r) 1 := by cases r <;> exact ⟨rfl, rfl⟩
theorem definedWithLength_alu (op : AluOp) (r : Reg8) : DefinedWithLength (.alu op r) 1 := by
  cases op <;> cases r <;> exact ⟨rfl, rfl⟩
theorem definedWithLength_aluHl (op : AluOp) : DefinedWithLength (.aluHl op) 1 := by cases op <;> exact ⟨rfl, rfl⟩
theorem definedWithLength_aluImm (op : AluOp) (v : Byte) : DefinedWithLength (.aluImm op v) 2 := by
  cases op <;> exact ⟨rfl, rfl⟩
theorem definedWithLength_inc (r : Reg8) : DefinedWithLength (.inc r) 1 := by cases r <;> exact ⟨rfl, rfl⟩
theorem definedWithLength_dec (r : Reg8) : DefinedWithLength (.dec r) 1 := by cases r <;> exact ⟨rfl, rfl⟩
theorem definedWithLength_ldPair (p : Pair) (w : Word) : DefinedWithLength (.ldPair p w) 3 := by
  cases p <;> exact ⟨rfl, rfl⟩
theorem definedWithLength_addHl (p : Pair) : DefinedWithLength (.addHl p) 1 := by cases p <;> exact ⟨rfl, rfl⟩
theorem definedWithLength_incPair (p : Pair) : DefinedWithLength (.incPair p) 1 := by cases p <;> exact ⟨rfl, rfl⟩
theorem definedWithLength_decPair (p : Pair) : DefinedWithLength (.decPair p) 1 := by cases p <;> exact ⟨rfl, rfl⟩
theorem definedWithLength_push (p : StackPair) : DefinedWithLength (.push p) 1 := by cases p <;> exact ⟨rfl, rfl⟩
theorem definedWithLength_pop (p : StackPair) : DefinedWithLength (.pop p) 1 := by cases p <;> exact ⟨rfl, rfl⟩

end Sys2Proof.Machine
end

section
/-! Outside the control transfers PC moves by the length of the encoding (spec/30_encoding.md R96). -/

namespace Sys2Proof.Machine

open Sys2Proof Sys2Proof.Claims

theorem pc_of_definedWithLength {i : Instr} {n : Nat} {s t : State} (hi : DefinedWithLength i n)
    (hpc : t.pc = s.pc + BitVec.ofNat 16 n) :
    t.pc = if i.wellFormed then s.pc + BitVec.ofNat 16 (encode i).length else s.pc := by
  obtain ⟨hwf, hlen⟩ := hi
  rw [if_pos hwf, hlen, hpc]

/-- Every meaning but a control transfer starts by moving PC past the instruction, and a fault leaves it. -/
theorem Executes.pc_eq {i : Instr} {m : State → State} (h : Executes i m) (s : State) (hi : writesPc i = false) :
    (m s).pc = if i.wellFormed then s.pc + BitVec.ofNat 16 (encode i).length else s.pc := by
  cases h with
  | ld dst r => exact pc_of_definedWithLength (definedWithLength_ld dst r) (by simp [loadReg])
  | ldImm dst v => exact pc_of_definedWithLength (definedWithLength_ldImm dst v) (by simp [loadImm])
  | ldFromHl dst => exact pc_of_definedWithLength (definedWithLength_ldFromHl dst) (by simp [loadFrom])
  | ldToHl r => exact pc_of_definedWithLength (definedWithLength_ldToHl r) (by simp [storeTo])
  | alu op r => exact pc_of_definedWithLength (definedWithLength_alu op r) (by simp [aluReg])
  | aluHl op => exact pc_of_definedWithLength (definedWithLength_aluHl op) (by simp [aluMem])
  | aluImm op v => exact pc_of_definedWithLength (definedWithLength_aluImm op v) (by simp [aluByte])
  | inc r => exact pc_of_definedWithLength (definedWithLength_inc r) (by simp [stepReg])
  | dec r => exact pc_of_definedWithLength (definedWithLength_dec r) (by simp [stepReg])
  | ldPair p w => exact pc_of_definedWithLength (definedWithLength_ldPair p w) (by simp [loadPair])
  | addHl p => exact pc_of_definedWithLength (definedWithLength_addHl p) (by simp [addToHl])
  | incPair p => exact pc_of_definedWithLength (definedWithLength_incPair p) (by simp [incPairBy1])
  | decPair p => exact pc_of_definedWithLength (definedWithLength_decPair p) (by simp [decPairBy1])
  | push p => exact pc_of_definedWithLength (definedWithLength_push p) (by simp [pushPair])
  | pop p => exact pc_of_definedWithLength (definedWithLength_pop p) (by simp [popPair])
  | jrIf cc e => exact absurd (writesPc_jrIf cc e) (by simp [hi])
  | jpIf cc t => exact absurd (writesPc_jpIf cc t) (by simp [hi])
  | callIf cc t => exact absurd (writesPc_callIf cc t) (by simp [hi])
  | retIf cc => exact absurd (writesPc_retIf cc) (by simp [hi])
  | rst y => exact absurd (writesPc_rst y) (by simp [hi])
  | jrR8 | jpA16 | jpHl | callA16 | ret | reti => cases hi
  | illegal hill => simp [Instr.wellFormed, hill]
  | prefixCb => rfl
  | ldIndDeA | ldIndCA | ldIndHlIncA | ldIndHlDecA | ldAIndBc | ldAIndDe | ldAIndC | ldAIndHlInc | ldAIndHlDec =>
    exact pc_of_definedWithLength (n := 1) ⟨rfl, rfl⟩ (by simp [storeTo, storeHlMove, loadFrom, loadHlMove])
  | ldBcA | ldSpHl | incIndHl | decIndHl =>
    exact pc_of_definedWithLength (n := 1) ⟨rfl, rfl⟩ (by simp [widenAIntoBc, copyHlToSp, stepMem])
  | rlca | rrca | rla | rra | daa | cpl | scf | ccf =>
    exact pc_of_definedWithLength (n := 1) ⟨rfl, rfl⟩
      (by simp [rotateA, decimalAdjust, complementA, carryOp])
  | nop | di | ei | halt => exact pc_of_definedWithLength (n := 1) ⟨rfl, rfl⟩ (by simp [idle, stopIn])
  | ldIndHlD8 | ldhIndA8A | ldhAIndA8 | addSpR8 | ldHlSpR8 | stop =>
    exact pc_of_definedWithLength (n := 2) ⟨rfl, rfl⟩
      (by simp [storeTo, loadFrom, addSpOffset, loadHlSpOffset, State.spPlusFlags, stopIn])
  | ldIndA16A | ldIndA16Sp | ldAIndA16 =>
    exact pc_of_definedWithLength (n := 3) ⟨rfl, rfl⟩ (by simp [storeTo, storeSp, loadFrom])

/-- Settles O50, by the case of the instruction that executes (`Executes.pc_eq`). -/
theorem pcAdvancesByTheLength : Obligations.PcAdvancesByTheLength := by
  intro i s hi
  obtain ⟨m, hm⟩ := exists_executes i
  exact ⟨m s, hm.exec_eq s, hm.pc_eq s hi⟩

end Sys2Proof.Machine
end

section
/-! The frame of the registers (spec/10_state.md R23). -/

namespace Sys2Proof.Machine

open Sys2Proof Sys2Proof.Claims

theorem reg_loadFrom_of_ne {r dst : Reg8} (h : r ≠ dst) (n k : Nat) (x : Word) (s : State) :
    (loadFrom n k dst x s).reg r = s.reg r := by
  simp [loadFrom, State.reg_setReg_of_ne h]

theorem reg_loadHlMove_of_notMem {r : Reg8} (h : r ∉ [.a, .h, .l]) (d : Word) (s : State) :
    (loadHlMove d s).reg r = s.reg r := by
  obtain ⟨hh, hl⟩ := ne_of_notMem_pair (List.not_mem_of_not_mem_cons h)
  simp [loadHlMove, State.reg_setHl_of_ne hh hl, reg_loadFrom_of_ne (List.ne_of_not_mem_cons h)]

theorem reg_stepReg_of_ne {q r : Reg8} (h : q ≠ r) (sum : Byte → Sum8) (n : Bool) (s : State) :
    (stepReg sum n r s).reg q = s.reg q := by
  simp [stepReg, State.reg_setReg_of_ne h]

theorem reg_rotateA_of_ne {r : Reg8} (h : r ≠ .a) (res : Byte) (out : Bool) (s : State) :
    (rotateA res out s).reg r = s.reg r := by
  simp [rotateA, State.reg_setA_of_ne h]

/-- An 8-bit register outside the destinations keeps its value. -/
theorem Executes.reg_frame {i : Instr} {m : State → State} (h : Executes i m) (s : State) {r : Reg8}
    (hr : r ∉ dest i) : (m s).reg r = s.reg r := by
  cases h with
  | ld dst q =>
    rw [dest_ld, List.mem_singleton] at hr
    simp [loadReg, State.reg_setReg_of_ne hr]
  | ldImm dst v =>
    rw [dest_ldImm, List.mem_singleton] at hr
    simp [loadImm, State.reg_setReg_of_ne hr]
  | ldFromHl dst =>
    rw [dest_ldFromHl, List.mem_singleton] at hr
    exact reg_loadFrom_of_ne hr ..
  | alu op q =>
    rw [dest_alu] at hr
    simp [aluReg, State.reg_alu_of_notMem hr]
  | aluHl op =>
    rw [dest_aluHl] at hr
    simp [aluMem, State.reg_alu_of_notMem hr]
  | aluImm op v =>
    rw [dest_aluImm] at hr
    simp [aluByte, State.reg_alu_of_notMem hr]
  | inc q =>
    rw [dest_inc, List.mem_singleton] at hr
    exact reg_stepReg_of_ne hr ..
  | dec q =>
    rw [dest_dec, List.mem_singleton] at hr
    exact reg_stepReg_of_ne hr ..
  | ldPair p w =>
    rw [dest_ldPair] at hr
    simp [loadPair, State.reg_setPair_of_notMem hr]
  | incPair p =>
    rw [dest_incPair] at hr
    simp [incPairBy1, State.reg_setPair_of_notMem hr]
  | decPair p =>
    rw [dest_decPair] at hr
    simp [decPairBy1, State.reg_setPair_of_notMem hr]
  | pop p =>
    rw [dest_pop] at hr
    simp [popPair, State.reg_setStackPair_of_notMem hr]
  | addHl p =>
    rw [dest_addHl] at hr
    obtain ⟨hh, hl⟩ := ne_of_notMem_pair hr
    simp [addToHl, State.reg_setHl_of_ne hh hl]
  | ldHlSpR8 =>
    obtain ⟨hh, hl⟩ := ne_of_notMem_pair (q₁ := .h) (q₂ := .l) hr
    simp [loadHlSpOffset, State.spPlusFlags, State.reg_setHl_of_ne hh hl]
  | ldIndHlIncA | ldIndHlDecA =>
    obtain ⟨hh, hl⟩ := ne_of_notMem_pair (q₁ := .h) (q₂ := .l) hr
    simp [storeHlMove, storeTo, State.reg_setHl_of_ne hh hl]
  | ldAIndHlInc | ldAIndHlDec => exact reg_loadHlMove_of_notMem hr _ s
  | ldBcA =>
    obtain ⟨hb, hc⟩ := ne_of_notMem_pair (q₁ := .b) (q₂ := .c) hr
    simp [widenAIntoBc, State.reg_setBc_of_ne hb hc]
  | ldAIndBc | ldAIndDe | ldAIndC | ldhAIndA8 | ldAIndA16 =>
    exact reg_loadFrom_of_ne (List.ne_of_not_mem_cons (l := []) hr) ..
  | rlca | rrca | rla | rra => exact reg_rotateA_of_ne (List.ne_of_not_mem_cons (l := []) hr) ..
  | daa =>
    have ha : r ≠ .a := List.ne_of_not_mem_cons (l := []) hr
    simp [decimalAdjust, State.reg_setA_of_ne ha]
  | cpl =>
    have ha : r ≠ .a := List.ne_of_not_mem_cons (l := []) hr
    simp [complementA, State.reg_setA_of_ne ha]
  | ldToHl | ldIndHlD8 | ldIndDeA | ldIndCA | ldhIndA8A | ldIndA16A => simp [storeTo]
  | ldIndA16Sp => simp [storeSp]
  | ldSpHl => simp [copyHlToSp]
  | addSpR8 => simp [addSpOffset, State.spPlusFlags]
  | incIndHl | decIndHl => simp [stepMem]
  | scf | ccf => simp [carryOp]
  | push => simp [pushPair]
  | jrR8 => simp [jumpRel]
  | jrIf => unfold jumpRelIf; split <;> simp
  | jpA16 => simp [jumpAbs]
  | jpHl => simp [jumpHl]
  | jpIf => unfold jumpAbsIf; split <;> simp
  | callA16 => simp [callAbs]
  | callIf => unfold callAbsIf; split <;> simp
  | ret | reti => simp [returnAlways]
  | retIf => unfold returnIf; split <;> simp
  | rst => simp [restart]
  | illegal | prefixCb => simp
  | nop | di | ei => simp [idle]
  | halt | stop => simp [stopIn]

theorem storeHlMove_sp (d : Word) (s : State) : (storeHlMove d s).sp = s.sp := by
  simp [storeHlMove, storeTo]

/-- SP keeps its value where the rule does not write it. -/
theorem Executes.sp_frame {i : Instr} {m : State → State} (h : Executes i m) (s : State)
    (hi : writesSp i = false) : (m s).sp = s.sp := by
  cases h with
  | ld => simp [loadReg]
  | ldImm => simp [loadImm]
  | ldFromHl | ldAIndBc | ldAIndDe | ldAIndC | ldhAIndA8 | ldAIndA16 => simp [loadFrom]
  | alu => simp [aluReg]
  | aluHl => simp [aluMem]
  | aluImm => simp [aluByte]
  | inc | dec => simp [stepReg]
  | ldPair p w =>
    cases p with
    | sp => cases hi
    | bc | de | hl => simp [loadPair, State.setPair]
  | incPair p =>
    cases p with
    | sp => cases hi
    | bc | de | hl => simp [incPairBy1, State.setPair]
  | decPair p =>
    cases p with
    | sp => cases hi
    | bc | de | hl => simp [decPairBy1, State.setPair]
  | jrIf => unfold jumpRelIf; split <;> simp
  | jpIf => unfold jumpAbsIf; split <;> simp
  | callIf cc t => exact absurd (writesSp_callIf cc t) (by simp [hi])
  | retIf cc => exact absurd (writesSp_retIf cc) (by simp [hi])
  | push p => exact absurd (writesSp_push p) (by simp [hi])
  | pop p => exact absurd (writesSp_pop p) (by simp [hi])
  | rst y => exact absurd (writesSp_rst y) (by simp [hi])
  | callA16 | ret | reti | ldSpHl | addSpR8 => cases hi
  | ldToHl | ldIndHlD8 | ldIndDeA | ldIndCA | ldhIndA8A | ldIndA16A => simp [storeTo]
  | ldIndHlIncA | ldIndHlDecA => exact storeHlMove_sp ..
  | ldIndA16Sp => simp [storeSp]
  | ldAIndHlInc | ldAIndHlDec => simp [loadHlMove, loadFrom]
  | ldBcA => simp [widenAIntoBc]
  | ldHlSpR8 => simp [loadHlSpOffset, State.spPlusFlags]
  | addHl => simp [addToHl]
  | incIndHl | decIndHl => simp [stepMem]
  | rlca | rrca | rla | rra => simp [rotateA]
  | daa => simp [decimalAdjust]
  | cpl => simp [complementA]
  | scf | ccf => simp [carryOp]
  | jrR8 => simp [jumpRel]
  | jpA16 => simp [jumpAbs]
  | jpHl => simp [jumpHl]
  | illegal | prefixCb => simp
  | nop | di | ei => simp [idle]
  | halt | stop => simp [stopIn]

/-- Settles O51: the 8-bit registers by `Executes.reg_frame`, SP by `Executes.sp_frame`. -/
theorem registerFrame : Obligations.RegisterFrame := by
  intro i s r
  obtain ⟨m, hm⟩ := exists_executes i
  exact ⟨m s, hm.exec_eq s, hm.reg_frame s, hm.sp_frame s⟩

end Sys2Proof.Machine
end

section
/-! The frame of the flags (spec/10_state.md R28). -/

namespace Sys2Proof.Machine

open Sys2Proof Sys2Proof.Claims

/-- Each of Z, N, H, C that `written` does not name is the same in both states. -/
def FlagsKept (written : Bool × Bool × Bool × Bool) (s t : State) : Prop :=
  (written.1 = false → t.flagZ = s.flagZ) ∧ (written.2.1 = false → t.flagN = s.flagN) ∧
  (written.2.2.1 = false → t.flagH = s.flagH) ∧ (written.2.2.2 = false → t.flagC = s.flagC)

/-- Where all four flags are written, nothing is claimed. -/
theorem FlagsKept.all_written (s t : State) : FlagsKept (true, true, true, true) s t :=
  ⟨nofun, nofun, nofun, nofun⟩

theorem FlagsKept.of_f_eq {written : Bool × Bool × Bool × Bool} {s t : State} (h : t.f = s.f) :
    FlagsKept written s t := by
  obtain ⟨hz, hn, hh, hc⟩ := State.flags_of_f h
  exact ⟨fun _ => hz, fun _ => hn, fun _ => hh, fun _ => hc⟩

theorem getD_of_isSome_eq_false {o : Option Bool} (b : Bool) (h : o.isSome = false) : o.getD b = b := by
  cases o with
  | none => rfl
  | some _ => cases h

/-- A flag update writes exactly the flags it is given (R27). -/
theorem flagsKept_setFlags (z n h c : Option Bool) (k : Nat) {s u : State} (hu : u.f = s.f) :
    FlagsKept (z.isSome, n.isSome, h.isSome, c.isSome) s ((u.setFlags z n h c).tick k) := by
  obtain ⟨hz, hn, hh, hc⟩ := State.flags_of_f hu
  exact ⟨
    fun e => (State.flagZ_setFlags z n h c u).trans ((getD_of_isSome_eq_false _ e).trans hz),
    fun e => (State.flagN_setFlags z n h c u).trans ((getD_of_isSome_eq_false _ e).trans hn),
    fun e => (State.flagH_setFlags z n h c u).trans ((getD_of_isSome_eq_false _ e).trans hh),
    fun e => (State.flagC_setFlags z n h c u).trans ((getD_of_isSome_eq_false _ e).trans hc)⟩

theorem storeHlMove_f (d : Word) (s : State) : (storeHlMove d s).f = s.f := by
  simp [storeHlMove, storeTo]

/-- A meaning keeps every flag that its rule does not list. -/
theorem Executes.flagsKept {i : Instr} {m : State → State} (h : Executes i m) (s : State) :
    FlagsKept (flagsWritten i) s (m s) := by
  cases h with
  | alu op r => rw [flagsWritten_alu]; exact .all_written ..
  | aluHl op => rw [flagsWritten_aluHl]; exact .all_written ..
  | aluImm op v => rw [flagsWritten_aluImm]; exact .all_written ..
  | inc r => rw [flagsWritten_inc]; exact .all_written ..
  | dec r => rw [flagsWritten_dec]; exact .all_written ..
  | incIndHl | decIndHl | addSpR8 | ldHlSpR8 | rlca | rrca | rla | rra => exact .all_written ..
  | addHl p => rw [flagsWritten_addHl]; exact flagsKept_setFlags none (some _) (some _) (some _) _ rfl
  | scf | ccf => exact flagsKept_setFlags none (some _) (some _) (some _) _ rfl
  | daa => exact flagsKept_setFlags (some _) none (some _) (some _) _ rfl
  | cpl => exact flagsKept_setFlags none (some _) (some _) none _ rfl
  | pop p =>
    cases p with
    | af => exact .all_written ..
    | bc | de | hl => exact .of_f_eq (by simp [popPair, State.setStackPair])
  | ld => exact .of_f_eq (by simp [loadReg])
  | ldImm => exact .of_f_eq (by simp [loadImm])
  | ldFromHl | ldAIndBc | ldAIndDe | ldAIndC | ldhAIndA8 | ldAIndA16 => exact .of_f_eq (by simp [loadFrom])
  | ldPair => exact .of_f_eq (by simp [loadPair])
  | incPair => exact .of_f_eq (by simp [incPairBy1])
  | decPair => exact .of_f_eq (by simp [decPairBy1])
  | jrIf => exact .of_f_eq (by unfold jumpRelIf; split <;> simp)
  | jpIf => exact .of_f_eq (by unfold jumpAbsIf; split <;> simp)
  | callIf => exact .of_f_eq (by unfold callAbsIf; split <;> simp)
  | retIf => exact .of_f_eq (by unfold returnIf; split <;> simp)
  | ldToHl | ldIndHlD8 | ldIndDeA | ldIndCA | ldhIndA8A | ldIndA16A => exact .of_f_eq (by simp [storeTo])
  | ldIndHlIncA | ldIndHlDecA => exact .of_f_eq (storeHlMove_f ..)
  | ldIndA16Sp => exact .of_f_eq (by simp [storeSp])
  | ldAIndHlInc | ldAIndHlDec => exact .of_f_eq (by simp [loadHlMove, loadFrom])
  | ldBcA => exact .of_f_eq (by simp [widenAIntoBc])
  | ldSpHl => exact .of_f_eq (by simp [copyHlToSp])
  | push => exact .of_f_eq (by simp [pushPair])
  | callA16 => exact .of_f_eq (by simp [callAbs])
  | rst => exact .of_f_eq (by simp [restart])
  | ret | reti => exact .of_f_eq (by simp [returnAlways])
  | jrR8 => exact .of_f_eq (by simp [jumpRel])
  | jpA16 => exact .of_f_eq (by simp [jumpAbs])
  | jpHl => exact .of_f_eq (by simp [jumpHl])
  | illegal | prefixCb => exact .of_f_eq (by simp)
  | nop | di | ei => exact .of_f_eq (by simp [idle])
  | halt | stop => exact .of_f_eq (by simp [stopIn])

/-- Settles O52, by `Executes.flagsKept`: a meaning either leaves F alone or writes it by one flag update. -/
theorem flagFrame : Obligations.FlagFrame := by
  intro i s
  obtain ⟨m, hm⟩ := exists_executes i
  exact ⟨m s, hm.exec_eq s, hm.flagsKept s⟩

end Sys2Proof.Machine
end

section
/-! What a request does, by the backing of its address (spec/20_memory.md R52, R53). -/

namespace Sys2Proof.Machine

open Sys2Proof Sys2Proof.Claims

@[simp] theorem Memory.backingAt_store (m : Memory) (a b : Word) (v : Byte) :
    (m.store a v).backingAt b = m.backingAt b := by
  rw [Memory.backingAt, Memory.store_map, Memory.backingAt]

@[simp] theorem Memory.backingAt_afterRead (m : Memory) (a b : Word) :
    (m.afterRead a).backingAt b = m.backingAt b := by
  rw [Memory.backingAt, (m.afterRead_spec a).2, Memory.backingAt]

theorem Memory.answer_of_readable {m : Memory} {a : Word} (h : m.backingAt a = .ram ∨ m.backingAt a = .rom) :
    m.answer a = some (m.byteAt a) := by
  obtain h | h := h <;> rw [Memory.answer, h]

theorem Memory.answer_of_unmapped {m : Memory} {a : Word} (h : m.backingAt a = .unmapped) : m.answer a = none := by
  rw [Memory.answer, h]

theorem Memory.answer_of_device {m : Memory} {a : Word} (h : m.backingAt a = .device) :
    m.answer a = Config.deviceRead m.device a := by
  rw [Memory.answer, h]

theorem Memory.afterRead_of_device {m : Memory} {a : Word} (h : m.backingAt a = .device) :
    m.afterRead a = { m with device := Config.deviceAfterRead m.device a } := by
  rw [Memory.afterRead, h]

theorem Memory.afterRead_of_not_device {m : Memory} {a : Word} (h : m.backingAt a ≠ .device) :
    m.afterRead a = m := by
  unfold Memory.afterRead
  cases hb : m.backingAt a with
  | device => exact absurd hb h
  | ram | rom | unmapped => rfl

theorem Memory.accepts_of_ram {m : Memory} {a : Word} (h : m.backingAt a = .ram) (v : Byte) :
    m.accepts a v = true := by
  rw [Memory.accepts, h]

theorem Memory.accepts_of_closed {m : Memory} {a : Word} (h : m.backingAt a = .rom ∨ m.backingAt a = .unmapped)
    (v : Byte) : m.accepts a v = false := by
  obtain h | h := h <;> rw [Memory.accepts, h]

theorem Memory.accepts_of_device {m : Memory} {a : Word} (h : m.backingAt a = .device) (v : Byte) :
    m.accepts a v = Config.deviceAccepts m.device a v := by
  rw [Memory.accepts, h]

/-- A rejected write changes nothing (R53). -/
theorem Memory.store_of_rejected {m : Memory} {a : Word} {v : Byte} (h : m.accepts a v = false) :
    m.store a v = m := by
  rw [Memory.store_spec, h]
  rfl

theorem Memory.store_of_ram {m : Memory} {a : Word} (h : m.backingAt a = .ram) (v : Byte) :
    m.store a v = { m with cells := putCell a.toNat v m.cells } := by
  rw [Memory.store, h]

theorem Memory.device_store_of_device {m : Memory} {a : Word} (h : m.backingAt a = .device) (v : Byte) :
    (m.store a v).device =
      if Config.deviceAccepts m.device a v then Config.deviceAfterWrite m.device a v else m.device := by
  rw [Memory.store, h]
  exact apply_ite Memory.device ..

theorem Memory.device_store_of_not_device {m : Memory} {a : Word} (h : m.backingAt a ≠ .device) (v : Byte) :
    (m.store a v).device = m.device := by
  unfold Memory.store
  cases hb : m.backingAt a with
  | device => exact absurd hb h
  | ram | rom | unmapped => rfl

/-- A write through to RAM stores its byte, and no other write changes a stored byte. -/
theorem Memory.byteAt_store {m : Memory} (hm : m.wf = true) (a b : Word) (v : Byte) :
    (m.store a v).byteAt b = if m.backingAt a = .ram ∧ b = a then v else m.byteAt b := by
  by_cases hb : b = a
  · subst hb
    cases ha : m.backingAt b with
    | ram => simp [Memory.store_of_ram ha, Memory.byteAt, lookupCell_putCell_self b.toNat v hm]
    | rom | unmapped =>
      have hclosed : m.backingAt b = .rom ∨ m.backingAt b = .unmapped := by simp [ha]
      simp [Memory.store_of_rejected (Memory.accepts_of_closed hclosed v)]
    | device => simp [Memory.store, ha, Memory.byteAt, apply_ite Memory.cells]
  · rw [if_neg (fun h => hb h.2), Memory.byteAt_store_ne m v hb]

/-- An address that no device answers for answers by its stored byte and its backing alone. -/
theorem Memory.answer_congr {m n : Memory} {a : Word} (hmap : n.map = m.map) (hbyte : n.byteAt a = m.byteAt a)
    (hdev : m.backingAt a ≠ .device) : n.answer a = m.answer a := by
  have hback : n.backingAt a = m.backingAt a := by rw [Memory.backingAt, hmap, Memory.backingAt]
  unfold Memory.answer
  rw [hback, hbyte]
  cases hb : m.backingAt a with
  | device => exact absurd hb hdev
  | ram | rom | unmapped => rfl

/-- Settles O42, clause by clause from the rules of a store, by the backing of its address. -/
theorem readAfterWrite : Obligations.ReadAfterWrite := by
  intro m a b v hm
  refine ⟨Memory.byteAt_store hm a b v, m.store_map a v, Memory.store_of_rejected,
    fun h => Memory.accepts_of_ram h v, fun h => ?_, Memory.answer_of_readable, Memory.answer_of_unmapped⟩
  have hrej : m.accepts a v = false := Memory.accepts_of_closed h v
  exact ⟨hrej, Memory.store_of_rejected hrej⟩

/-- Settles O60: at a device each answer is the free function of its state, and no other request moves
that state. -/
theorem deviceAnswersFollowItsState : Obligations.DeviceAnswersFollowItsState := by
  intro m a b v ha
  refine ⟨Memory.answer_of_device ha, Memory.afterRead_of_device ha, Memory.accepts_of_device ha v,
    Memory.device_store_of_device ha v, fun hb => Memory.answer_of_device ?_, fun hb => ?_⟩
  · rw [Memory.backingAt_store, hb]
  · exact ⟨Memory.device_store_of_not_device hb v, Memory.afterRead_of_not_device hb⟩

end Sys2Proof.Machine
end

section
/-! Byte and word reads of the state (spec/20_memory.md R54 to R59), and the opcode fetch (R67). -/

namespace Sys2Proof.Machine

open Sys2Proof Sys2Proof.Claims

theorem State.readByte_of_answer {s : State} {a : Word} {o : Option Byte} (h : s.mem.answer a = o) :
    s.readByte a = o.getD 0x00 := by
  rw [State.readByte, h]

/-- RAM and ROM give the stored byte. -/
theorem State.readByte_of_ram {s : State} {a : Word} (h : s.mem.backingAt a = .ram) :
    s.readByte a = s.mem.byteAt a :=
  State.readByte_of_answer (Memory.answer_of_readable (.inl h))

theorem fetchOpcode_of_fetch {s : State} (h : s.cfg.opcodeSource = .fetch) : fetchOpcode s = s.readByte s.pc := by
  rw [fetchOpcode, h]

/-- Settles O41: every clause is the substitution of `State.readByte` at the address the fetch uses. -/
theorem byteReadSubstitutesZero : Obligations.ByteReadSubstitutesZero := by
  intro s a
  exact ⟨fun b h => State.readByte_of_answer h, fun h => State.readByte_of_answer h, rfl,
    fun h => fetchOpcode_of_fetch h, fun mk => rfl, fun mk => rfl⟩

/-- A byte written to RAM is read back (R53). -/
theorem State.readByte_writeByte_same {s : State} {a : Word} (hm : s.mem.wf = true) (ha : s.mem.backingAt a = .ram)
    (v : Byte) : (s.writeByte a v).readByte a = v := by
  rw [State.readByte_of_ram (by simp [ha]), State.writeByte_mem, Memory.byteAt_store hm, if_pos ⟨ha, rfl⟩]

theorem word_ne_add_one (a : Word) : a ≠ a + 1 := by
  bv_omega

/-- Settles O43: the high byte is stored last, so it is read back, and the low byte stands at another address. -/
theorem wordAccessLittleEndian : Obligations.WordAccessLittleEndian := by
  intro s a v hm ha ha'
  have hm1 : (s.writeByte a (lo8 v)).mem.wf = true := Memory.wf_store a (lo8 v) hm
  have ha1 : (s.writeWord a v).mem.backingAt a = .ram := by simp [State.writeWord, ha]
  have hhi : (s.writeWord a v).readByte (a + 1) = hi8 v :=
    State.readByte_writeByte_same hm1 ((Memory.backingAt_store ..).trans ha') (hi8 v)
  have hlo : (s.writeWord a v).readByte a = lo8 v := by
    rw [State.readByte_of_ram ha1, State.writeWord, State.writeByte_mem,
      Memory.byteAt_store_ne _ _ (word_ne_add_one a), ← State.readByte_of_ram (by simp [ha]),
      State.readByte_writeByte_same hm ha]
  have hread : ((s.writeWord a v).afterRead a).readByte (a + 1) = (s.writeWord a v).readByte (a + 1) := by
    rw [State.readByte, State.afterRead_mem, Memory.afterRead_of_not_device (by simp [ha1]), State.readByte]
  refine ⟨hlo, hhi, ?_, fun b hb hb' => ?_⟩
  · rw [State.readWord, hread, hhi, hlo, wordOf_hi8_lo8]
  · rw [State.writeWord, State.writeByte_mem, Memory.byteAt_store_ne _ _ hb', State.writeByte_mem,
      Memory.byteAt_store_ne _ _ hb]

/-- Settles O44: the opcode fetch is a byte read at PC, and the written byte is read back. -/
theorem storeIsSeenByFetch : Obligations.StoreIsSeenByFetch := by
  intro s a v hm ha hsrc
  have hsrc' : ((s.writeByte a v).setPc a).cfg.opcodeSource = .fetch := hsrc
  have hop : fetchOpcode ((s.writeByte a v).setPc a) = v := by
    rw [fetchOpcode_of_fetch hsrc']
    exact State.readByte_writeByte_same hm ha v
  have hbegin : fetchOpcode ((s.writeByte a v).setPc a).beginStep = v := hop
  exact ⟨hop, by rw [fetchInstr, hbegin]⟩

end Sys2Proof.Machine
end

section
/-! Sequences of read requests and of write requests (spec/20_memory.md R60, R61, R69). -/

namespace Sys2Proof.Machine

open Sys2Proof Sys2Proof.Claims

/-- The state after the read requests for a list of addresses, in order. -/
def State.afterReads : List Word → State → State
  | [], s => s
  | x :: xs, s => (s.afterRead x).afterReads xs

/-- The bytes that these read requests give, each read after the effect of those before it. -/
def State.bytesRead : List Word → State → List Byte
  | [], _ => []
  | x :: xs, s => s.readByte x :: (s.afterRead x).bytesRead xs

/-- The state after the write requests for a list of addresses and bytes, in order. -/
def State.writeBytes : List (Word × Byte) → State → State
  | [], s => s
  | w :: ws, s => (s.writeByte w.1 w.2).writeBytes ws

theorem State.bus_afterReads (xs : List Word) (s : State) :
    ∃ new, (s.afterReads xs).bus = s.bus ++ new ∧ new.map target = xs.map (fun a => (false, a)) := by
  induction xs generalizing s with
  | nil => exact ⟨[], (List.append_nil _).symm, rfl⟩
  | cons x xs ih =>
    obtain ⟨new, hbus, htarget⟩ := ih (s.afterRead x)
    exact ⟨.read x (s.mem.answer x) :: new, by simp [State.afterReads, hbus], by simp [target, htarget]⟩

theorem State.bus_writeBytes (ws : List (Word × Byte)) (s : State) :
    ∃ new, (s.writeBytes ws).bus = s.bus ++ new ∧
      new.map target = (ws.map Prod.fst).map (fun a => (true, a)) := by
  induction ws generalizing s with
  | nil => exact ⟨[], (List.append_nil _).symm, rfl⟩
  | cons w ws ih =>
    obtain ⟨new, hbus, htarget⟩ := ih (s.writeByte w.1 w.2)
    exact ⟨.write w.1 w.2 (s.mem.accepts w.1 w.2) :: new, by simp [State.writeBytes, hbus],
      by simp [target, htarget]⟩

theorem State.map_afterReads (xs : List Word) (s : State) : (s.afterReads xs).mem.map = s.mem.map := by
  induction xs generalizing s with
  | nil => rfl
  | cons x xs ih => exact (ih _).trans (s.mem.afterRead_spec x).2

theorem State.map_writeBytes (ws : List (Word × Byte)) (s : State) :
    (s.writeBytes ws).mem.map = s.mem.map := by
  induction ws generalizing s with
  | nil => rfl
  | cons w ws ih => exact (ih _).trans (s.mem.store_map w.1 w.2)

theorem State.byteAt_afterReads (xs : List Word) (a : Word) (s : State) :
    (s.afterReads xs).mem.byteAt a = s.mem.byteAt a := by
  induction xs generalizing s with
  | nil => rfl
  | cons x xs ih => exact (ih _).trans (s.mem.byteAt_afterRead x a)

theorem State.byteAt_writeBytes_of_notMem {ws : List (Word × Byte)} {a : Word} (ha : a ∉ ws.map Prod.fst)
    (s : State) : (s.writeBytes ws).mem.byteAt a = s.mem.byteAt a := by
  induction ws generalizing s with
  | nil => rfl
  | cons w ws ih =>
    obtain ⟨hw, hws⟩ := not_or.mp (List.mem_cons.not.mp ha)
    exact (ih hws _).trans (s.mem.byteAt_store_ne w.2 hw)

end Sys2Proof.Machine
end

section
/-! Every meaning is its data requests and a register update that sees memory only through the bytes read. -/

namespace Sys2Proof.Machine

open Sys2Proof Sys2Proof.Claims

/-- `s` with the memory and the bus of `u`. -/
def State.withMemoryOf (s u : State) : State := { s with mem := u.mem, bus := u.bus }

/-- `f` neither reads nor writes memory and the bus, and keeps the parameters and the opcode port. -/
structure RegisterUpdate (f : State → State) : Prop where
  blind : ∀ u s, f (s.withMemoryOf u) = (f s).withMemoryOf u
  cfg : ∀ s, (f s).cfg = s.cfg
  opcodeIn : ∀ s, (f s).opcodeIn = s.opcodeIn

/-- `m` sends read requests for the addresses `reads`, then write requests to the addresses `writes`, and
beyond that updates registers from the state and the bytes it read. -/
def Accesses (reads writes : State → List Word) (m : State → State) : Prop :=
  ∃ update : List Byte → State → State, (∀ bytes, RegisterUpdate (update bytes)) ∧
    ∀ s, ∃ ws : List (Word × Byte), ws.map Prod.fst = writes s ∧
      m s = (update (s.bytesRead (reads s)) s).withMemoryOf ((s.afterReads (reads s)).writeBytes ws)

/-- A branch on a condition reads F alone (spec/45_control.md R230). -/
theorem RegisterUpdate.ifCond (cc : Cond) {f g : State → State} (hf : RegisterUpdate f) (hg : RegisterUpdate g) :
    RegisterUpdate (fun s => if s.cond cc then f s else g s) where
  blind u s := by
    have hcond : (s.withMemoryOf u).cond cc = s.cond cc := rfl
    simp only [hcond]
    split
    · exact hf.blind u s
    · exact hg.blind u s
  cfg s := by
    split
    · exact hf.cfg s
    · exact hg.cfg s
  opcodeIn s := by
    split
    · exact hf.opcodeIn s
    · exact hg.opcodeIn s

theorem Accesses.ifCond (cc : Cond) {rs₁ xs₁ rs₂ xs₂ : State → List Word} {f g : State → State}
    (hf : Accesses rs₁ xs₁ f) (hg : Accesses rs₂ xs₂ g) :
    Accesses (fun s => if s.cond cc then rs₁ s else rs₂ s) (fun s => if s.cond cc then xs₁ s else xs₂ s)
      (fun s => if s.cond cc then f s else g s) := by
  obtain ⟨updateF, hupdateF, hf⟩ := hf
  obtain ⟨updateG, hupdateG, hg⟩ := hg
  refine ⟨fun bytes s => if s.cond cc then updateF bytes s else updateG bytes s,
    fun bytes => .ifCond cc (hupdateF bytes) (hupdateG bytes), fun s => ?_⟩
  dsimp only
  split
  · exact hf s
  · exact hg s

/-- A register update sends nothing. -/
theorem RegisterUpdate.accesses {f : State → State} (hf : RegisterUpdate f) :
    Accesses (fun _ => []) (fun _ => []) f :=
  ⟨fun _ => f, fun _ => hf, fun s => ⟨[], rfl, hf.blind s s⟩⟩

-- the meanings without a data request

/-- Past an instruction and nothing else: a transfer that is not taken. -/
theorem registerUpdate_untaken (n k : Nat) :
    RegisterUpdate (fun s => { s with pc := s.pc + BitVec.ofNat 16 n, cycles := s.cycles + k }) :=
  ⟨fun _ _ => rfl, fun _ => rfl, fun _ => rfl⟩
theorem registerUpdate_loadReg (dst r : Reg8) : RegisterUpdate (loadReg dst r) := by
  rw [funext (loadReg_spec dst r)]
  cases dst <;> exact ⟨fun _ _ => rfl, fun _ => rfl, fun _ => rfl⟩
theorem registerUpdate_loadImm (dst : Reg8) (v : Byte) : RegisterUpdate (loadImm dst v) := by
  rw [funext (loadImm_spec dst v)]
  cases dst <;> exact ⟨fun _ _ => rfl, fun _ => rfl, fun _ => rfl⟩
theorem registerUpdate_aluReg (op : AluOp) (r : Reg8) : RegisterUpdate (aluReg op r) := by
  cases op <;> exact ⟨fun _ _ => rfl, fun _ => rfl, fun _ => rfl⟩
theorem registerUpdate_aluByte (op : AluOp) (v : Byte) : RegisterUpdate (aluByte op v) := by
  cases op <;> exact ⟨fun _ _ => rfl, fun _ => rfl, fun _ => rfl⟩
theorem registerUpdate_stepReg (sum : Byte → Sum8) (n : Bool) (r : Reg8) : RegisterUpdate (stepReg sum n r) := by
  rw [funext (stepReg_spec sum n r)]
  cases r <;> exact ⟨fun _ _ => rfl, fun _ => rfl, fun _ => rfl⟩
theorem registerUpdate_loadPair (p : Pair) (w : Word) : RegisterUpdate (loadPair p w) := by
  rw [funext (loadPair_spec p w)]
  cases p <;> exact ⟨fun _ _ => rfl, fun _ => rfl, fun _ => rfl⟩
theorem registerUpdate_incPairBy1 (p : Pair) : RegisterUpdate (incPairBy1 p) := by
  rw [funext (incPairBy1_spec p)]
  cases p <;> exact ⟨fun _ _ => rfl, fun _ => rfl, fun _ => rfl⟩
theorem registerUpdate_decPairBy1 (p : Pair) : RegisterUpdate (decPairBy1 p) := by
  rw [funext (decPairBy1_spec p)]
  cases p <;> exact ⟨fun _ _ => rfl, fun _ => rfl, fun _ => rfl⟩
theorem registerUpdate_addToHl (p : Pair) : RegisterUpdate (addToHl p) :=
  ⟨fun _ _ => rfl, fun _ => rfl, fun _ => rfl⟩
theorem registerUpdate_jumpRelIf (cc : Cond) (e : Byte) : RegisterUpdate (jumpRelIf cc e) := by
  rw [funext (jumpRelIf_spec cc e)]
  exact ⟨fun _ _ => rfl, fun _ => rfl, fun _ => rfl⟩
theorem registerUpdate_jumpAbsIf (cc : Cond) (t : Word) : RegisterUpdate (jumpAbsIf cc t) := by
  rw [funext (jumpAbsIf_spec cc t)]
  exact ⟨fun _ _ => rfl, fun _ => rfl, fun _ => rfl⟩
theorem registerUpdate_jumpRel (e : Byte) : RegisterUpdate (jumpRel e) := by
  rw [funext (jumpRel_spec e)]
  exact ⟨fun _ _ => rfl, fun _ => rfl, fun _ => rfl⟩
theorem registerUpdate_jumpAbs (t : Word) : RegisterUpdate (jumpAbs t) := by
  rw [funext (jumpAbs_spec t)]
  exact ⟨fun _ _ => rfl, fun _ => rfl, fun _ => rfl⟩
theorem registerUpdate_raise (k : FaultCause) (op : Byte) : RegisterUpdate (State.raise k op) :=
  ⟨fun _ _ => rfl, fun _ => rfl, fun _ => rfl⟩

-- the meanings that read data

theorem accesses_loadFrom (n k : Nat) (dst : Reg8) (addr : State → Word) :
    Accesses (fun s => [addr s]) (fun _ => []) (fun s => loadFrom n k dst (addr s) s) := by
  refine ⟨fun bytes s => { s.setReg dst (bytes.headD 0) with
      pc := s.pc + BitVec.ofNat 16 n, cycles := s.cycles + k },
    fun bytes => ?_, fun s => ⟨[], rfl, (loadFrom_spec n k dst (addr s) s).trans ?_⟩⟩
  · cases dst <;> exact ⟨fun _ _ => rfl, fun _ => rfl, fun _ => rfl⟩
  · cases dst <;> rfl

theorem accesses_loadHlMove (d : Word) : Accesses (fun s => [s.hl]) (fun _ => []) (loadHlMove d) :=
  ⟨fun bytes s => { s with
      a := bytes.headD 0, h := hi8 (s.hl + d), l := lo8 (s.hl + d)
      pc := s.pc + BitVec.ofNat 16 1, cycles := s.cycles + 8 },
    fun _ => ⟨fun _ _ => rfl, fun _ => rfl, fun _ => rfl⟩, fun s => ⟨[], rfl, loadHlMove_spec d s⟩⟩

theorem accesses_aluMem (op : AluOp) : Accesses (fun s => [s.hl]) (fun _ => []) (aluMem op) := by
  refine ⟨fun bytes s => ((s.advance 1).alu op (bytes.headD 0)).tick 8, fun bytes => ?_, fun s => ⟨[], rfl, ?_⟩⟩
  · cases op <;> exact ⟨fun _ _ => rfl, fun _ => rfl, fun _ => rfl⟩
  · cases op <;> rfl

theorem accesses_popPair (p : StackPair) : Accesses (fun s => [s.sp, s.sp + 1]) (fun _ => []) (popPair p) := by
  refine ⟨fun bytes s => { s.setStackPair p (wordOf (bytes.getD 1 0) (bytes.getD 0 0)) with
      sp := s.sp + 2, pc := s.pc + BitVec.ofNat 16 1, cycles := s.cycles + 12 },
    fun bytes => ?_, fun s => ⟨[], rfl, (popPair_spec p s).trans ?_⟩⟩
  · cases p <;> exact ⟨fun _ _ => rfl, fun _ => rfl, fun _ => rfl⟩
  · cases p <;> rfl

/-- A return that is taken, at the cost `k`. -/
theorem accesses_return (k : Nat) :
    Accesses (fun s => [s.sp, s.sp + 1]) (fun _ => [])
      (fun s => { s.afterReadWord s.sp with sp := s.sp + 2, pc := s.popValue, cycles := s.cycles + k }) :=
  ⟨fun bytes s => { s with
      sp := s.sp + 2, pc := wordOf (bytes.getD 1 0) (bytes.getD 0 0), cycles := s.cycles + k },
    fun _ => ⟨fun _ _ => rfl, fun _ => rfl, fun _ => rfl⟩, fun _ => ⟨[], rfl, rfl⟩⟩

theorem accesses_returnAlways : Accesses (fun s => [s.sp, s.sp + 1]) (fun _ => []) returnAlways := by
  rw [funext returnAlways_spec]
  exact accesses_return 16

theorem accesses_returnIf (cc : Cond) : Accesses (fun s => if s.cond cc then [s.sp, s.sp + 1] else [])
    (fun _ => []) (returnIf cc) := by
  have h := Accesses.ifCond cc (accesses_return 20) (registerUpdate_untaken 1 8).accesses
  simp only [ite_self] at h
  rw [funext (returnIf_spec cc)]
  exact h

-- the meanings that write data

theorem accesses_storeTo (n k : Nat) (addr : State → Word) (v : State → Byte) :
    Accesses (fun _ => []) (fun s => [addr s]) (fun s => storeTo n k (addr s) (v s) s) :=
  ⟨_, fun _ => registerUpdate_untaken n k, fun s => ⟨[(addr s, v s)], rfl, storeTo_spec n k (addr s) (v s) s⟩⟩

theorem accesses_storeHlMove (d : Word) : Accesses (fun _ => []) (fun s => [s.hl]) (storeHlMove d) :=
  ⟨fun _ s => { s with
      h := hi8 (s.hl + d), l := lo8 (s.hl + d), pc := s.pc + BitVec.ofNat 16 1, cycles := s.cycles + 8 },
    fun _ => ⟨fun _ _ => rfl, fun _ => rfl, fun _ => rfl⟩,
    fun s => ⟨[(s.hl, s.a)], rfl, storeHlMove_spec d s⟩⟩

theorem accesses_stepMem (sum : Byte → Sum8) (n : Bool) :
    Accesses (fun s => [s.hl]) (fun s => [s.hl]) (stepMem sum n) :=
  ⟨fun bytes s => ((s.advance 1).flagsOf (sum (bytes.headD 0)) n).tick 12,
    fun _ => ⟨fun _ _ => rfl, fun _ => rfl, fun _ => rfl⟩,
    fun s => ⟨[(s.hl, (sum (s.readByte s.hl)).res)], rfl, rfl⟩⟩

theorem accesses_storeSp (t : Word) : Accesses (fun _ => []) (fun _ => [t, t + 1]) (storeSp t) :=
  ⟨_, fun _ => registerUpdate_untaken 3 20,
    fun s => ⟨[(t, lo8 s.sp), (t + 1, hi8 s.sp)], rfl, storeSp_spec t s⟩⟩

theorem accesses_pushPair (p : StackPair) :
    Accesses (fun _ => []) (fun s => [s.sp - 2, s.sp - 2 + 1]) (pushPair p) :=
  ⟨fun _ s => { s with sp := s.sp - 2, pc := s.pc + BitVec.ofNat 16 1, cycles := s.cycles + 16 },
    fun _ => ⟨fun _ _ => rfl, fun _ => rfl, fun _ => rfl⟩,
    fun s => ⟨[(s.sp - 2, lo8 (s.stackPair p)), (s.sp - 2 + 1, hi8 (s.stackPair p))], rfl, pushPair_spec p s⟩⟩

/-- A call that is taken: the push of the address `n` bytes on, the target, the cost. -/
theorem accesses_call (n k : Nat) (t : Word) :
    Accesses (fun _ => []) (fun s => [s.sp - 2, s.sp - 2 + 1])
      (fun s => { s.writeWord (s.sp - 2) (s.pc + BitVec.ofNat 16 n) with
        sp := s.sp - 2, pc := t, cycles := s.cycles + k }) :=
  ⟨fun _ s => { s with sp := s.sp - 2, pc := t, cycles := s.cycles + k },
    fun _ => ⟨fun _ _ => rfl, fun _ => rfl, fun _ => rfl⟩,
    fun s => ⟨[(s.sp - 2, lo8 (s.pc + BitVec.ofNat 16 n)), (s.sp - 2 + 1, hi8 (s.pc + BitVec.ofNat 16 n))],
      rfl, rfl⟩⟩

theorem accesses_callAbs (t : Word) :
    Accesses (fun _ => []) (fun s => [s.sp - 2, s.sp - 2 + 1]) (callAbs t) := by
  rw [funext (callAbs_spec t)]
  exact accesses_call 3 24 t

theorem accesses_restart (y : BitVec 3) :
    Accesses (fun _ => []) (fun s => [s.sp - 2, s.sp - 2 + 1]) (restart y) := by
  rw [funext (restart_spec y)]
  exact accesses_call 1 16 (rstTarget y)

theorem accesses_callAbsIf (cc : Cond) (t : Word) : Accesses (fun _ => [])
    (fun s => if s.cond cc then [s.sp - 2, s.sp - 2 + 1] else []) (callAbsIf cc t) := by
  have h := Accesses.ifCond cc (accesses_callAbs t) (registerUpdate_untaken 3 12).accesses
  simp only [ite_self] at h
  rw [funext (callAbsIf_spec cc t)]
  exact h

end Sys2Proof.Machine
end

section
/-! The tables of data requests, by family of instructions, and the normal form of every instruction. -/

namespace Sys2Proof.Machine

open Sys2Proof Sys2Proof.Claims

/-- What the two tables of data requests hold for an instruction (spec/20_memory.md R69). -/
def HasRequests (i : Instr) (reads writes : State → List Word) : Prop :=
  readAt i = reads ∧ storedAt i = writes

theorem hasRequests_ld (dst r : Reg8) : HasRequests (.ld dst r) (fun _ => []) (fun _ => []) := by
  cases dst <;> cases r <;> exact ⟨rfl, rfl⟩
theorem hasRequests_ldImm (dst : Reg8) (v : Byte) : HasRequests (.ldImm dst v) (fun _ => []) (fun _ => []) := by
  cases dst <;> exact ⟨rfl, rfl⟩
theorem hasRequests_ldFromHl (dst : Reg8) : HasRequests (.ldFromHl dst) (fun s => [s.hl]) (fun _ => []) := by
  cases dst <;> exact ⟨rfl, rfl⟩
theorem hasRequests_ldToHl (r : Reg8) : HasRequests (.ldToHl r) (fun _ => []) (fun s => [s.hl]) := by
  cases r <;> exact ⟨rfl, rfl⟩
theorem hasRequests_alu (op : AluOp) (r : Reg8) : HasRequests (.alu op r) (fun _ => []) (fun _ => []) := by
  cases op <;> cases r <;> exact ⟨rfl, rfl⟩
theorem hasRequests_aluHl (op : AluOp) : HasRequests (.aluHl op) (fun s => [s.hl]) (fun _ => []) := by
  cases op <;> exact ⟨rfl, rfl⟩
theorem hasRequests_aluImm (op : AluOp) (v : Byte) : HasRequests (.aluImm op v) (fun _ => []) (fun _ => []) := by
  cases op <;> exact ⟨rfl, rfl⟩
theorem hasRequests_inc (r : Reg8) : HasRequests (.inc r) (fun _ => []) (fun _ => []) := by
  cases r <;> exact ⟨rfl, rfl⟩
theorem hasRequests_dec (r : Reg8) : HasRequests (.dec r) (fun _ => []) (fun _ => []) := by
  cases r <;> exact ⟨rfl, rfl⟩
theorem hasRequests_ldPair (p : Pair) (w : Word) : HasRequests (.ldPair p w) (fun _ => []) (fun _ => []) := by
  cases p <;> exact ⟨rfl, rfl⟩
theorem hasRequests_addHl (p : Pair) : HasRequests (.addHl p) (fun _ => []) (fun _ => []) := by
  cases p <;> exact ⟨rfl, rfl⟩
theorem hasRequests_incPair (p : Pair) : HasRequests (.incPair p) (fun _ => []) (fun _ => []) := by
  cases p <;> exact ⟨rfl, rfl⟩
theorem hasRequests_decPair (p : Pair) : HasRequests (.decPair p) (fun _ => []) (fun _ => []) := by
  cases p <;> exact ⟨rfl, rfl⟩
theorem hasRequests_push (p : StackPair) :
    HasRequests (.push p) (fun _ => []) (fun s => [s.sp - 2, s.sp - 2 + 1]) := by
  cases p <;> exact ⟨rfl, rfl⟩
theorem hasRequests_pop (p : StackPair) : HasRequests (.pop p) (fun s => [s.sp, s.sp + 1]) (fun _ => []) := by
  cases p <;> exact ⟨rfl, rfl⟩
theorem hasRequests_jrIf (cc : Cond) (e : Byte) : HasRequests (.jrIf cc e) (fun _ => []) (fun _ => []) := by
  cases cc <;> exact ⟨rfl, rfl⟩
theorem hasRequests_jpIf (cc : Cond) (t : Word) : HasRequests (.jpIf cc t) (fun _ => []) (fun _ => []) := by
  cases cc <;> exact ⟨rfl, rfl⟩
theorem hasRequests_callIf (cc : Cond) (t : Word) : HasRequests (.callIf cc t) (fun _ => [])
    (fun s => if s.cond cc then [s.sp - 2, s.sp - 2 + 1] else []) := by
  cases cc <;> exact ⟨rfl, rfl⟩
theorem hasRequests_retIf (cc : Cond) :
    HasRequests (.retIf cc) (fun s => if s.cond cc then [s.sp, s.sp + 1] else []) (fun _ => []) := by
  cases cc <;> exact ⟨rfl, rfl⟩
theorem hasRequests_rst (y : BitVec 3) :
    HasRequests (.rst y) (fun _ => []) (fun s => [s.sp - 2, s.sp - 2 + 1]) := by
  rcases y with ⟨⟨n, hn⟩⟩
  have : n < 8 := hn
  interval_cases n <;> exact ⟨rfl, rfl⟩
theorem hasRequests_illegal {i : Instr} (h : i.illegal = true) : HasRequests i (fun _ => []) (fun _ => []) := by
  unfold Instr.illegal at h
  split at h
  case h_12 => cases h
  all_goals exact ⟨rfl, rfl⟩

/-- The high page by its two bytes (spec/30_encoding.md R89). -/
theorem highPage_eq_wordOf (o : Byte) : highPage o = wordOf 0xFF o := by
  apply BitVec.eq_of_toNat_eq
  have := o.isLt
  simp only [highPage, zext16, wordOf, BitVec.toNat_append, BitVec.toNat_add, BitVec.toNat_setWidth]
  rw [← Nat.shiftLeft_add_eq_or_of_lt (by omega)]
  simp
  omega

theorem HasRequests.accesses {i : Instr} {reads writes : State → List Word} {m : State → State}
    (hi : HasRequests i reads writes) (hm : Accesses reads writes m) : Accesses (readAt i) (storedAt i) m := by
  obtain ⟨rfl, rfl⟩ := hi
  exact hm

/-- The normal form of every instruction: what its meaning sends is what the tables hold. -/
theorem Executes.accesses {i : Instr} {m : State → State} (h : Executes i m) :
    Accesses (readAt i) (storedAt i) m := by
  cases h with
  | ld dst r => exact (hasRequests_ld dst r).accesses (registerUpdate_loadReg dst r).accesses
  | ldImm dst v => exact (hasRequests_ldImm dst v).accesses (registerUpdate_loadImm dst v).accesses
  | alu op r => exact (hasRequests_alu op r).accesses (registerUpdate_aluReg op r).accesses
  | aluImm op v => exact (hasRequests_aluImm op v).accesses (registerUpdate_aluByte op v).accesses
  | inc r => exact (hasRequests_inc r).accesses (registerUpdate_stepReg inc8 false r).accesses
  | dec r => exact (hasRequests_dec r).accesses (registerUpdate_stepReg dec8 true r).accesses
  | ldPair p w => exact (hasRequests_ldPair p w).accesses (registerUpdate_loadPair p w).accesses
  | addHl p => exact (hasRequests_addHl p).accesses (registerUpdate_addToHl p).accesses
  | incPair p => exact (hasRequests_incPair p).accesses (registerUpdate_incPairBy1 p).accesses
  | decPair p => exact (hasRequests_decPair p).accesses (registerUpdate_decPairBy1 p).accesses
  | jrIf cc e => exact (hasRequests_jrIf cc e).accesses (registerUpdate_jumpRelIf cc e).accesses
  | jpIf cc t => exact (hasRequests_jpIf cc t).accesses (registerUpdate_jumpAbsIf cc t).accesses
  | ldBcA | ldSpHl | addSpR8 | ldHlSpR8 | rlca | rrca | rla | rra | daa | cpl | scf | ccf | jpHl
  | nop | di | ei | halt | stop =>
    exact RegisterUpdate.accesses ⟨fun _ _ => rfl, fun _ => rfl, fun _ => rfl⟩
  | jrR8 e => exact (registerUpdate_jumpRel e).accesses
  | jpA16 t => exact (registerUpdate_jumpAbs t).accesses
  | illegal hi =>
    exact (hasRequests_illegal hi).accesses (registerUpdate_raise .illegalOpcode _).accesses
  | prefixCb => exact (registerUpdate_raise .notImplemented 0xCB).accesses
  | ldFromHl dst => exact (hasRequests_ldFromHl dst).accesses (accesses_loadFrom 1 8 dst State.hl)
  | ldAIndBc => exact accesses_loadFrom 1 8 .a State.bc
  | ldAIndDe => exact accesses_loadFrom 1 8 .a State.de
  | ldAIndA16 t => exact accesses_loadFrom 3 16 .a fun _ => t
  | ldAIndC =>
    simp only [highPage_eq_wordOf]
    exact accesses_loadFrom 1 8 .a fun s => wordOf 0xFF s.c
  | ldhAIndA8 o =>
    simp only [highPage_eq_wordOf]
    exact accesses_loadFrom 2 12 .a fun _ => wordOf 0xFF o
  | ldAIndHlInc => exact accesses_loadHlMove 1
  | ldAIndHlDec => exact accesses_loadHlMove (-1)
  | aluHl op => exact (hasRequests_aluHl op).accesses (accesses_aluMem op)
  | pop p => exact (hasRequests_pop p).accesses (accesses_popPair p)
  | ret | reti => exact accesses_returnAlways
  | retIf cc => exact (hasRequests_retIf cc).accesses (accesses_returnIf cc)
  | ldToHl r => exact (hasRequests_ldToHl r).accesses (accesses_storeTo 1 8 State.hl (State.reg r))
  | ldIndHlD8 v => exact accesses_storeTo 2 12 State.hl fun _ => v
  | ldIndDeA => exact accesses_storeTo 1 8 State.de State.a
  | ldIndA16A t => exact accesses_storeTo 3 16 (fun _ => t) State.a
  | ldIndCA =>
    simp only [highPage_eq_wordOf]
    exact accesses_storeTo 1 8 (fun s => wordOf 0xFF s.c) State.a
  | ldhIndA8A o =>
    simp only [highPage_eq_wordOf]
    exact accesses_storeTo 2 12 (fun _ => wordOf 0xFF o) State.a
  | ldIndHlIncA => exact accesses_storeHlMove 1
  | ldIndHlDecA => exact accesses_storeHlMove (-1)
  | incIndHl => exact accesses_stepMem inc8 false
  | decIndHl => exact accesses_stepMem dec8 true
  | ldIndA16Sp t => exact accesses_storeSp t
  | push p => exact (hasRequests_push p).accesses (accesses_pushPair p)
  | callA16 t => exact accesses_callAbs t
  | rst y => exact (hasRequests_rst y).accesses (accesses_restart y)
  | callIf cc t => exact (hasRequests_callIf cc t).accesses (accesses_callAbsIf cc t)

end Sys2Proof.Machine
end

section
/-! The data requests of an instruction and its memory frame (spec/20_memory.md R54 to R57, R60, R61, R69). -/

namespace Sys2Proof.Machine

open Sys2Proof Sys2Proof.Claims

theorem length_ite_pair_le (b : Bool) (x y : Word) : (if b then [x, y] else []).length ≤ 2 := by
  cases b <;> simp

/-- At most two requests of each kind (R60). -/
theorem length_readAt_le (i : Instr) (s : State) : (readAt i s).length ≤ 2 := by
  cases i with
  | retNz | retZ | retNc | retC => exact length_ite_pair_le ..
  | _ => exact Nat.le_of_ble_eq_true rfl

theorem length_storedAt_le (i : Instr) (s : State) : (storedAt i s).length ≤ 2 := by
  cases i with
  | callNzA16 | callZA16 | callNcA16 | callCA16 => exact length_ite_pair_le ..
  | _ => exact Nat.le_of_ble_eq_true rfl

/-- The requests that a meaning adds to the bus are those of the tables, reads first. -/
theorem Accesses.bus {reads writes : State → List Word} {m : State → State} (h : Accesses reads writes m)
    (s : State) : ∃ new, (m s).bus = s.bus ++ new ∧
      new.map target = (reads s).map (fun a => (false, a)) ++ (writes s).map (fun a => (true, a)) := by
  obtain ⟨update, -, h⟩ := h
  obtain ⟨ws, hws, hm⟩ := h s
  obtain ⟨rs, hreads, hrs⟩ := s.bus_afterReads (reads s)
  obtain ⟨xs, hwrites, hxs⟩ := (s.afterReads (reads s)).bus_writeBytes ws
  refine ⟨rs ++ xs, ?_, ?_⟩
  · rw [hm, ← List.append_assoc, ← hreads, ← hwrites]
    rfl
  · rw [List.map_append, hrs, hxs, hws]

/-- Settles O54, by the normal form of the meaning and the lengths of the tables. -/
theorem dataRequestsInOrder : Obligations.DataRequestsInOrder := by
  intro i s
  obtain ⟨m, hm⟩ := exists_executes i
  obtain ⟨new, hbus, hnew⟩ := hm.accesses.bus s
  exact ⟨m s, new, hm.exec_eq s, hbus, hnew, length_readAt_le i s, length_storedAt_le i s⟩

/-- What a meaning leaves alone: the regions, the parameters, the opcode port, and every stored byte that
it does not store to. -/
theorem Accesses.frame {reads writes : State → List Word} {m : State → State} (h : Accesses reads writes m)
    (s : State) : (m s).mem.map = s.mem.map ∧ (m s).cfg = s.cfg ∧ (m s).opcodeIn = s.opcodeIn ∧
      ∀ a, a ∉ writes s → (m s).mem.byteAt a = s.mem.byteAt a := by
  obtain ⟨update, hupdate, h⟩ := h
  obtain ⟨ws, hws, hm⟩ := h s
  rw [hm, ← hws]
  exact ⟨(State.map_writeBytes ..).trans (State.map_afterReads ..), (hupdate _).cfg s, (hupdate _).opcodeIn s,
    fun a ha => (State.byteAt_writeBytes_of_notMem ha _).trans (State.byteAt_afterReads ..)⟩

/-- Settles O53: the frame of the normal form, and without a device a byte and its region decide the answer. -/
theorem memoryFrame : Obligations.MemoryFrame := by
  intro i s a
  obtain ⟨m, hm⟩ := exists_executes i
  obtain ⟨hmap, hcfg, hport, hbyte⟩ := hm.accesses.frame s
  refine ⟨m s, hm.exec_eq s, hbyte a, fun ha hdev => ?_, hmap, hcfg, hport⟩
  exact State.readByte_of_answer (Memory.answer_congr hmap (hbyte a ha) hdev)

end Sys2Proof.Machine
end

section
/-! Two memories that answer every read alike cannot be told apart (spec/20_memory.md R53, R61). -/

namespace Sys2Proof.Machine

open Sys2Proof Sys2Proof.Claims

/-- `n` answers every read as `m` does, now and after any reads: its devices stand at the same addresses
and in the same state. -/
def ReadsAlike (m n : Memory) : Prop :=
  ∀ a, (n.backingAt a = .device ↔ m.backingAt a = .device) ∧
    (m.backingAt a = .device → n.device = m.device) ∧ n.answer a = m.answer a

/-- A read request keeps two memories alike: a device moves by its state and the address alone. -/
theorem ReadsAlike.afterRead {m n : Memory} (h : ReadsAlike m n) (x : Word) :
    ReadsAlike (m.afterRead x) (n.afterRead x) := by
  obtain ⟨hback, hstate, -⟩ := h x
  by_cases hx : m.backingAt x = .device
  · have hdev : (n.afterRead x).device = (m.afterRead x).device := by
      rw [Memory.afterRead_of_device hx, Memory.afterRead_of_device (hback.mpr hx), hstate hx]
    intro a
    obtain ⟨ha, -, hanswer⟩ := h a
    refine ⟨by simpa using ha, fun _ => hdev, ?_⟩
    by_cases hda : m.backingAt a = .device
    · rw [Memory.answer_of_device (by simpa using ha.mpr hda), Memory.answer_of_device (by simpa using hda), hdev]
    · have hna : n.backingAt a ≠ .device := fun e => hda (ha.mp e)
      rw [Memory.answer_congr (n.afterRead_spec x).2 (n.byteAt_afterRead x a) hna, hanswer,
        Memory.answer_congr (m.afterRead_spec x).2 (m.byteAt_afterRead x a) hda]
  · rw [Memory.afterRead_of_not_device hx, Memory.afterRead_of_not_device (fun e => hx (hback.mp e))]
    exact h

/-- Reads of memories that answer alike give the same bytes. -/
theorem ReadsAlike.bytesRead {s t : State} (h : ReadsAlike s.mem t.mem) (xs : List Word) :
    t.bytesRead xs = s.bytesRead xs := by
  induction xs generalizing s t with
  | nil => rfl
  | cons x xs ih =>
    obtain ⟨-, -, hanswer⟩ := h x
    have htail : (t.afterRead x).bytesRead xs = (s.afterRead x).bytesRead xs := ih (h.afterRead x)
    rw [State.bytesRead, State.bytesRead, State.readByte_of_answer hanswer, htail, State.readByte]

/-- Settles O56: the bytes read are the same, the register update sees nothing else of memory, and the
tables of requests read registers alone. -/
theorem writeAnswersAreInvisible : Obligations.WriteAnswersAreInvisible := by
  intro i s n halike
  obtain ⟨m, hm⟩ := exists_executes i
  let s' : State := { s with mem := n }
  have hreads : readAt i s' = readAt i s := rfl
  have hwrites : storedAt i s' = storedAt i s := rfl
  obtain ⟨new, hbus, hnew⟩ := hm.accesses.bus s
  obtain ⟨new', hbus', hnew'⟩ := hm.accesses.bus s'
  obtain ⟨update, hupdate, h⟩ := hm.accesses
  obtain ⟨ws, -, hs⟩ := h s
  obtain ⟨ws', -, hs'⟩ := h s'
  have hbytes : s'.bytesRead (readAt i s') = s.bytesRead (readAt i s) :=
    ReadsAlike.bytesRead (s := s) (t := s') halike (readAt i s)
  have hblind : update (s.bytesRead (readAt i s)) s' = (update (s.bytesRead (readAt i s)) s).withMemoryOf s' :=
    (hupdate _).blind s' s
  refine ⟨m s, m s', hm.exec_eq s, hm.exec_eq s', ?_, ?_⟩
  · rw [hs', hs, hbytes, hblind]
    rfl
  · rw [hbus, hbus', List.map_append, List.map_append, hnew, hnew', hreads, hwrites]

end Sys2Proof.Machine
end

section
/-! The requests of a whole step (spec/20_memory.md R69, spec/30_encoding.md R95, R99). -/

namespace Sys2Proof.Machine

open Sys2Proof Sys2Proof.Claims

/-- Every instruction the form makes is encoded in as many bytes as the form says. -/
def FormLengthIsEncoded : Form → Prop
  | .op i => (encode i).length = 1
  | .imm8 mk => ∀ v, (encode (mk v)).length = 2
  | .imm16 mk => ∀ w, (encode (mk w)).length = 3

theorem forall_getD {α : Type} {P : α → Prop} {l : List α} (hl : ∀ x ∈ l, P x) {d : α} (hd : P d) (n : Nat) :
    P (l.getD n d) := by
  by_cases hn : n < l.length
  · rw [List.getD_eq_getElem l d hn]
    exact hl _ (List.getElem_mem hn)
  · rw [List.getD_eq_default l d (Nat.le_of_not_lt hn)]
    exact hd

theorem formLengthIsEncoded_of_mem_grid : ∀ row ∈ grid, ∀ fm ∈ row, FormLengthIsEncoded fm := by
  simp only [grid, gridRow0, gridRow1, gridRow2, gridRow3, gridRow4, gridRow5, gridRow6, gridRow7, gridRow8, gridRow9,
    gridRowA, gridRowB, gridRowC, gridRowD, gridRowE, gridRowF, List.forall_mem_append, List.forall_mem_cons,
    List.not_mem_nil, false_implies, implies_true, FormLengthIsEncoded, encode, Instr.operands, List.length_cons,
    List.length_nil, and_self]

theorem formLengthIsEncoded_form (op : Byte) : FormLengthIsEncoded (form op) := by
  have hrow : ∀ fm ∈ grid.getD (op.toNat / 16) [], FormLengthIsEncoded fm :=
    forall_getD (P := fun row => ∀ fm ∈ row, FormLengthIsEncoded fm) formLengthIsEncoded_of_mem_grid (by simp) _
  have hdefault : FormLengthIsEncoded (.op .nop) := show (encode .nop).length = 1 from rfl
  exact forall_getD hrow hdefault _

/-- The instruction fetched is encoded in the bytes the fetch asks for, whatever the operand bytes are. -/
theorem length_encode_fetchOperands (op : Byte) (s : State) :
    (encode (fetchOperands (form op) s)).length = (form op).length := by
  have h := formLengthIsEncoded_form op
  unfold fetchOperands
  cases hf : form op with
  | op i => rw [hf] at h; exact h
  | imm8 mk => rw [hf] at h; exact h _
  | imm16 mk => rw [hf] at h; exact h _

theorem afterOpcode_pc (s : State) : (afterOpcode s).pc = s.pc := by
  unfold afterOpcode
  split <;> rfl

theorem target_afterOpcode (s : State) :
    (afterOpcode s).bus.map target = s.bus.map target ++ fetchTargets 1 s := by
  unfold afterOpcode fetchTargets
  cases s.cfg.opcodeSource with
  | fetch => simp [target, List.range_succ]
  | harness => simp

theorem target_afterOperands (fm : Form) (s : State) :
    (afterOperands fm s).bus.map target = s.bus.map target ++
      (List.range (fm.length - 1)).map fun k => (false, s.pc + BitVec.ofNat 16 (k + 1)) := by
  cases fm with
  | op => simp [afterOperands, Form.length]
  | imm8 => simp [afterOperands, Form.length, target, List.range_succ]
  | imm16 => simp [afterOperands, Form.length, target, List.range_succ, State.afterReadWord, BitVec.add_assoc]

theorem fetchTargets_succ (n : Nat) (s : State) :
    fetchTargets (n + 1) s =
      fetchTargets 1 s ++ (List.range n).map fun k => (false, s.pc + BitVec.ofNat 16 (k + 1)) := by
  unfold fetchTargets
  cases s.cfg.opcodeSource with
  | fetch => simp [List.range_succ_eq_map, Function.comp_def]
  | harness => simp

theorem form_length_pos (fm : Form) : 1 ≤ fm.length := by
  cases fm <;> simp [Form.length]

/-- The requests of a fetch: the opcode under FETCH, then the operand bytes at ascending addresses. -/
theorem target_afterFetch (s : State) :
    (afterFetch s).bus.map target = s.bus.map target ++ fetchTargets (encode (fetchInstr s)).length s := by
  have hlen : (encode (fetchInstr s)).length = (form (fetchOpcode s)).length := length_encode_fetchOperands _ _
  rw [afterFetch, target_afterOperands, target_afterOpcode, afterOpcode_pc, List.append_assoc, hlen,
    ← fetchTargets_succ, Nat.sub_add_cancel (form_length_pos _)]

/-- Settles O55: the fetch sends its own requests (`target_afterFetch`), and the meaning adds its data
requests (`Accesses.bus`). -/
theorem stepRequestsInOrder : Obligations.StepRequestsInOrder := by
  intro s hrun i s'
  obtain ⟨m, hm⟩ := exists_executes i
  obtain ⟨new, hbus, hnew⟩ := hm.accesses.bus s'
  have hfetch : s'.bus.map target = fetchTargets (encode i).length s := target_afterFetch s.beginStep
  exact ⟨m s', (step_running s hrun).trans (hm.exec_eq s'), by rw [hbus, List.map_append, hnew, hfetch]⟩

end Sys2Proof.Machine
end

section
/-! Encoding and decoding: what an opcode's form makes of its operands (spec/30_encoding.md R80, R81, R88, R90, R99). -/

namespace Sys2Proof

open Sys2Proof.Claims

/-- The instruction a form makes of its operand: `v` where it takes a byte, `w` where it takes a word. -/
def Form.fill (v : Byte) (w : Word) : Form → Instr
  | .op i => i
  | .imm8 mk => mk v
  | .imm16 mk => mk w

/-- The operand bytes that the form takes, a word's low byte first (R88). -/
def Form.operandBytes (v : Byte) (w : Word) : Form → List Byte
  | .op _ => []
  | .imm8 _ => [v]
  | .imm16 _ => [lo8 w, hi8 w]

theorem Form.length_eq (v : Byte) (w : Word) (fm : Form) : fm.length = (fm.operandBytes v w).length + 1 := by
  cases fm <;> rfl

/-- Every row of the grid is filled to instructions that are encoded with the opcode byte of that row (R90). -/
theorem encode_fill (op v : Byte) (w : Word) :
    encode ((form op).fill v w) = op :: (form op).operandBytes v w := by
  obtain ⟨n, hn, rfl⟩ : ∃ n < 256, op = BitVec.ofNat 8 n := ⟨op.toNat, op.isLt, by simp⟩
  interval_cases n <;> rfl

/-- Every instruction fills the row of its opcode byte. -/
theorem exists_fill (i : Instr) : ∃ v w, i = (form i.opcode).fill v w := by
  cases i with
  | ldBcD16 w | ldIndA16Sp w | ldDeD16 w | ldHlD16 w | ldSpD16 w | jpNzA16 w | jpA16 w | callNzA16 w | jpZA16 w
  | callZA16 w | callA16 w | jpNcA16 w | callNcA16 w | jpCA16 w | callCA16 w | ldIndA16A w | ldAIndA16 w =>
    dsimp only [Instr.opcode]
    exact ⟨0, w, rfl⟩
  | ldBD8 v | ldCD8 v | stop v | ldDD8 v | jrR8 v | ldED8 v | jrNzR8 v | ldHD8 v | jrZR8 v | ldLD8 v | jrNcR8 v
  | ldIndHlD8 v | jrCR8 v | ldAD8 v | addAD8 v | adcAD8 v | subD8 v | sbcAD8 v | ldhIndA8A v | andD8 v | addSpR8 v
  | xorD8 v | ldhAIndA8 v | orD8 v | ldHlSpR8 v | cpD8 v =>
    dsimp only [Instr.opcode]
    exact ⟨v, 0, rfl⟩
  | _ => exact ⟨0, 0, rfl⟩

/-- The decoder reads a filled form back and gives the rest (R81, R88). -/
theorem decode_fill (op v : Byte) (w : Word) (rest : List Byte) :
    decode (op :: (form op).operandBytes v w ++ rest) = .ok ((form op).fill v w, rest) := by
  cases hf : form op <;> simp [decode, hf, Form.fill, Form.operandBytes]

/-- Enough bytes behind an opcode are the operand bytes of its form and a rest. -/
theorem exists_operands_of_length_le {op : Byte} {tail : List Byte} (h : (form op).length ≤ (op :: tail).length) :
    ∃ v w rest, tail = (form op).operandBytes v w ++ rest := by
  match hf : form op, tail with
  | .op _, tail => exact ⟨0, 0, tail, rfl⟩
  | .imm8 _, v :: rest => exact ⟨v, 0, rest, rfl⟩
  | .imm16 _, lo :: hi :: rest => exact ⟨0, wordOf hi lo, rest, by simp [Form.operandBytes]⟩
  | .imm8 _, [] | .imm16 _, [] | .imm16 _, [_] => simp [hf, Form.length] at h

/-- The decoder refuses bytes that end inside an instruction. -/
theorem length_le_of_decode {op : Byte} {tail : List Byte} {p : Instr × List Byte} (h : decode (op :: tail) = .ok p) :
    (form op).length ≤ (op :: tail).length := by
  match hf : form op, tail with
  | .op _, _ | .imm8 _, _ :: _ | .imm16 _, _ :: _ :: _ => simp [Form.length]
  | .imm8 _, [] | .imm16 _, [] | .imm16 _, [_] => simp [decode, hf] at h

/-- Bytes that decode are an opcode, the operand bytes of its form and the rest. -/
theorem exists_fill_of_decode {bytes rest : List Byte} {i : Instr} (h : decode bytes = .ok (i, rest)) :
    ∃ op v w, bytes = op :: (form op).operandBytes v w ++ rest ∧ i = (form op).fill v w := by
  cases bytes with
  | nil => cases h
  | cons op tail =>
    obtain ⟨v, w, rest', rfl⟩ := exists_operands_of_length_le (length_le_of_decode h)
    cases (decode_fill op v w rest').symm.trans h
    exact ⟨op, v, w, rfl, rfl⟩

/-- Settles O34: the instruction fills the form of its own opcode byte, and the decoder reads that form back. -/
theorem decodeOfEncode : Obligations.DecodeOfEncode := by
  intro i rest
  obtain ⟨v, w, hi⟩ := exists_fill i
  have hbytes : encode i = i.opcode :: (form i.opcode).operandBytes v w := by
    conv_lhs => rw [hi]
    exact encode_fill ..
  rw [hbytes, decode_fill, ← hi]

/-- Settles O35: what decodes is a filled form, and a filled form is encoded with its opcode byte; bytes decode
when they hold all operand bytes of the form. -/
theorem encodeOfDecode : Obligations.EncodeOfDecode := by
  intro bytes
  refine ⟨?_, ?_, ?_⟩
  · intro i rest h
    obtain ⟨op, v, w, rfl, rfl⟩ := exists_fill_of_decode h
    rw [encode_fill]
  · rintro ⟨i, rest, h⟩
    obtain ⟨op, v, w, rfl, -⟩ := exists_fill_of_decode h
    exact ⟨op, _, rfl, length_le_of_decode h⟩
  · rintro ⟨op, tail, rfl, h⟩
    obtain ⟨v, w, rest, rfl⟩ := exists_operands_of_length_le h
    exact ⟨_, rest, decode_fill op v w rest⟩

theorem length_encode (i : Instr) : (encode i).length = (form i.opcode).length := by
  obtain ⟨v, w, hi⟩ := exists_fill i
  conv_lhs => rw [hi, encode_fill]
  exact ((form i.opcode).length_eq v w).symm

/-- Settles O37: the length is that of the opcode byte's form, for which the 256 bytes are compared with the lists. -/
theorem lengthFromOpcodeByte : Obligations.LengthFromOpcodeByte := by
  intro i
  rw [length_encode]
  generalize i.opcode = op
  revert op
  decide

/-- Settles O33: each word is the encoding of its instruction. -/
theorem decodesSampleWords : Obligations.DecodesSampleWords :=
  ⟨decodeOfEncode .ldBC [], decodeOfEncode (.ldAD8 0x2A) [], decodeOfEncode .addAIndHl [],
   decodeOfEncode (.adcAD8 0x3B) [], decodeOfEncode .incIndHl [], decodeOfEncode .addHlHl [],
   decodeOfEncode (.ldHlSpR8 0xFE) [], decodeOfEncode .rla [], decodeOfEncode (.ldHlD16 0xBEEF) [],
   decodeOfEncode (.ldIndA16Sp 0xC100) [], decodeOfEncode (.ldhIndA8A 0x80) [], decodeOfEncode (.jrNzR8 0xFC) [],
   decodeOfEncode (.callA16 0x1234) [], decodeOfEncode .popAf [], decodeOfEncode .rst38 [], decodeOfEncode .halt [],
   decodeOfEncode (.stop 0x00) [], decodeOfEncode .prefixCb [], decodeOfEncode .illegalD3 []⟩

-- the encodings of the quadrants x = 1 and x = 2, by the fields y and z (R83, R86)

theorem encode_ld (dst r : Reg8) : encode (.ld dst r) = [0b01#2 ++ dst.code ++ r.code] := by
  cases dst <;> cases r <;> rfl
theorem encode_ldFromHl (dst : Reg8) : encode (.ldFromHl dst) = [0b01#2 ++ dst.code ++ 0b110#3] := by
  cases dst <;> rfl
theorem encode_ldToHl (r : Reg8) : encode (.ldToHl r) = [0b01#2 ++ 0b110#3 ++ r.code] := by
  cases r <;> rfl
theorem encode_alu (op : AluOp) (r : Reg8) : encode (.alu op r) = [0b10#2 ++ op.code ++ r.code] := by
  cases op <;> cases r <;> rfl
theorem encode_aluHl (op : AluOp) : encode (.aluHl op) = [0b10#2 ++ op.code ++ 0b110#3] := by
  cases op <;> rfl
theorem encode_aluImm (op : AluOp) (v : Byte) : encode (.aluImm op v) = [0b11#2 ++ op.code ++ 0b110#3, v] := by
  cases op <;> rfl

/-- Bytes have one meaning: the instruction whose encoding they start with. -/
theorem decode_of_encode_eq {i : Instr} {bytes : List Byte} (h : encode i = bytes) (rest : List Byte) :
    decode (bytes ++ rest) = .ok (i, rest) :=
  h ▸ decodeOfEncode i rest

/-- Settles O36: the bytes with these fields are the encodings of the families, which decode back. -/
theorem opcodeFieldsSelectOperands : Obligations.OpcodeFieldsSelectOperands := by
  refine ⟨fun dst r op v rest => ?_, rfl, rfl⟩
  exact ⟨decode_of_encode_eq (encode_ld dst r) rest, decode_of_encode_eq (encode_ldFromHl dst) rest,
    decode_of_encode_eq (encode_ldToHl r) rest, decodeOfEncode .halt rest,
    decode_of_encode_eq (encode_alu op r) rest, decode_of_encode_eq (encode_aluHl op) rest,
    decode_of_encode_eq (encode_aluImm op v) rest⟩

end Sys2Proof
end

section
/-! A running step executes what its bytes decode to (spec/30_encoding.md R87, R88, R95, R96). -/

namespace Sys2Proof.Machine

open Sys2Proof Sys2Proof.Claims

/-- The bytes that the fetch of a step would read, if it read three: the opcode and two bytes behind it. -/
def fetchBytes (s : State) : List Byte :=
  let t := afterOpcode s
  [fetchOpcode s, t.readByte (t.pc + 1), (t.afterRead (t.pc + 1)).readByte (t.pc + 1 + 1)]

theorem fetchBytes_of_fetch {s : State} (h : s.cfg.opcodeSource = .fetch) : fetchBytes s = bytesAtPc s := by
  have hpc : s.pc + 1 + 1 = s.pc + 2 := by bv_omega
  simp only [fetchBytes, bytesAtPc, fetchOpcode, afterOpcode, h, State.afterRead_pc, hpc]

theorem fetchBytes_of_harness {s : State} (h : s.cfg.opcodeSource = .harness) : fetchBytes s = bytesFromPort s := by
  have hpc : s.pc + 1 + 1 = s.pc + 2 := by bv_omega
  simp only [fetchBytes, bytesFromPort, fetchOpcode, afterOpcode, h, hpc]

/-- Those bytes always decode, to the instruction that is fetched. -/
theorem decode_fetchBytes (s : State) : ∃ rest, decode (fetchBytes s) = .ok (fetchInstr s, rest) := by
  cases hf : form (fetchOpcode s) <;> simp [decode, fetchBytes, fetchInstr, fetchOperands, State.readWord, hf]

theorem fetchInstr_of_decode {s : State} {i : Instr} {rest : List Byte} (h : decode (fetchBytes s) = .ok (i, rest)) :
    fetchInstr s = i := by
  obtain ⟨rest', h'⟩ := decode_fetchBytes s
  cases h'.symm.trans h
  rfl

theorem afterOperands_eq_readsFrom (fm : Form) (s : State) :
    afterOperands fm s = readsFrom (s.pc + 1) (fm.length - 1) s := by
  cases fm <;> rfl

theorem afterFetch_eq_readsFrom (s : State) :
    afterFetch s = readsFrom (s.pc + 1) ((encode (fetchInstr s)).length - 1) (afterOpcode s) := by
  have hlen : (encode (fetchInstr s)).length = (form (fetchOpcode s)).length := length_encode_fetchOperands _ _
  rw [afterFetch, afterOperands_eq_readsFrom, afterOpcode_pc, hlen]

/-- Under FETCH the opcode byte is read first, from PC itself (R95). -/
theorem afterFetch_of_fetch {s : State} (h : s.cfg.opcodeSource = .fetch) :
    afterFetch s = readsFrom s.pc (encode (fetchInstr s)).length s := by
  rw [afterFetch_eq_readsFrom, afterOpcode, h]
  rfl

/-- Under HARNESS the opcode is on the port, and no request is sent for it (R95). -/
theorem afterFetch_of_harness {s : State} (h : s.cfg.opcodeSource = .harness) :
    afterFetch s = readsFrom (s.pc + 1) ((encode (fetchInstr s)).length - 1) s := by
  rw [afterFetch_eq_readsFrom, afterOpcode, h]

/-- Settles O31: the bytes a fetch reads decode to the instruction it fetches, and its requests are those of that
instruction's encoding. -/
theorem stepRunsTheDecodedInstruction : Obligations.StepRunsTheDecodedInstruction := by
  intro s i rest hrun
  rw [step_running s hrun]
  constructor
  · intro hsrc hdec
    have hbytes : fetchBytes s.beginStep = bytesAtPc s := fetchBytes_of_fetch (s := s.beginStep) hsrc
    have hi : fetchInstr s.beginStep = i := fetchInstr_of_decode (hbytes ▸ hdec)
    have hreads : afterFetch s.beginStep = readsFrom s.pc (encode i).length s.beginStep :=
      hi ▸ afterFetch_of_fetch (s := s.beginStep) hsrc
    rw [hi, hreads]
    rfl
  · intro hsrc hdec
    have hbytes : fetchBytes s.beginStep = bytesFromPort s := fetchBytes_of_harness (s := s.beginStep) hsrc
    have hi : fetchInstr s.beginStep = i := fetchInstr_of_decode (hbytes ▸ hdec)
    have hreads : afterFetch s.beginStep = readsFrom (s.pc + 1) ((encode i).length - 1) s.beginStep :=
      hi ▸ afterFetch_of_harness (s := s.beginStep) hsrc
    rw [hi, hreads]
    rfl

/-- `n` ascending addresses from `a` on. -/
def addressesFrom (a : Word) (n : Nat) : List Word := (List.range n).map fun k => a + BitVec.ofNat 16 k

theorem addressesFrom_succ (a : Word) (n : Nat) : addressesFrom a (n + 1) = a :: addressesFrom (a + 1) n := by
  simp only [addressesFrom, List.range_succ_eq_map, List.map_cons, List.map_map, BitVec.ofNat_add, Function.comp_def,
    Nat.succ_eq_add_one, BitVec.add_zero]
  congr! 3
  ac_rfl

theorem readsFrom_eq_afterReads (a : Word) (n : Nat) (s : State) :
    readsFrom a n s = s.afterReads (addressesFrom a n) := by
  induction n generalizing a s with
  | zero => rfl
  | succ n ih => rw [addressesFrom_succ, readsFrom, State.afterReads, ih]

theorem State.take_bytesRead (n : Nat) (xs : List Word) (s : State) :
    (s.bytesRead xs).take n = s.bytesRead (xs.take n) := by
  induction xs generalizing n s with
  | nil => simp [State.bytesRead]
  | cons x xs ih => cases n <;> simp [State.bytesRead, ih]

theorem take_addressesFrom {m n : Nat} (h : m ≤ n) (a : Word) : (addressesFrom a n).take m = addressesFrom a m := by
  rw [addressesFrom, ← List.map_take, List.take_range, Nat.min_eq_left h, addressesFrom]

theorem bytesAtPc_eq_bytesRead (s : State) : bytesAtPc s = s.bytesRead (addressesFrom s.pc 3) := by
  simp [bytesAtPc, addressesFrom, List.range_succ, State.bytesRead]

theorem length_encode_le (i : Instr) : (encode i).length ≤ 3 := by
  rw [length_encode]
  cases form i.opcode <;> simp [Form.length]

/-- Reads that meet no device leave the memory alone, so it answers each of them alike. -/
theorem State.reads_of_not_device {xs : List Word} {s : State} (h : ∀ x ∈ xs, s.mem.backingAt x ≠ .device) :
    s.bytesRead xs = xs.map (fun x => s.readByte x) ∧
    s.afterReads xs = { s with bus := s.bus ++ xs.map fun x => .read x (s.mem.answer x) } := by
  induction xs generalizing s with
  | nil => simp [State.bytesRead, State.afterReads]
  | cons x xs ih =>
    obtain ⟨hx, hxs⟩ := List.forall_mem_cons.mp h
    have hread : s.afterRead x = { s with bus := s.bus ++ [.read x (s.mem.answer x)] } := by
      rw [State.afterRead, Memory.afterRead_of_not_device hx]
    obtain ⟨hbytes, hafter⟩ := ih (s := s.afterRead x) (by rw [hread]; exact hxs)
    rw [State.bytesRead, State.afterReads, hbytes, hafter, hread]
    simp [State.readByte]

/-- Settles O32: without a device the bytes from PC are the encoding and a rest, and the memory answers each request
as it stood. -/
theorem stepExecutesStoredEncoding : Obligations.StepExecutesStoredEncoding := by
  intro s i hrun hsrc hdev hbytes
  have hdevice : ∀ x ∈ addressesFrom s.pc (encode i).length, s.mem.backingAt x ≠ .device := by
    simpa [addressesFrom] using hdev
  have hstored : (addressesFrom s.pc (encode i).length).map (fun x => s.readByte x) = encode i := by
    apply List.ext_getElem
    · simp [addressesFrom]
    · intro k _ hk
      simp [addressesFrom, hbytes k hk, hk]
  have htake : (bytesAtPc s).take (encode i).length = encode i := by
    rw [bytesAtPc_eq_bytesRead, State.take_bytesRead, take_addressesFrom (length_encode_le i),
      (State.reads_of_not_device hdevice).1, hstored]
  have hsplit : bytesAtPc s = encode i ++ (bytesAtPc s).drop (encode i).length :=
    (List.take_append_drop _ _).symm.trans (congrArg (· ++ _) htake)
  have hdecode := (congrArg decode hsplit).trans (decodeOfEncode i _)
  rw [(stepRunsTheDecodedInstruction s i _ hrun).1 hsrc hdecode, readsFrom_eq_afterReads,
    (State.reads_of_not_device (s := { s with bus := [] }) hdevice).2]
  simp [fetchReads, addressesFrom, Function.comp_def]

end Sys2Proof.Machine
end

section
/-! The 12 rows that fault (spec/30_encoding.md R91, R92, spec/60_exceptions.md R301, R302). -/

namespace Sys2Proof.Machine

open Sys2Proof Sys2Proof.Claims

/-- The 11 rows of R91. -/
def illegalRows : List Instr :=
  [.illegalD3, .illegalDB, .illegalDD, .illegalE3, .illegalE4, .illegalEB, .illegalEC, .illegalED, .illegalF4,
   .illegalFC, .illegalFD]

theorem mem_illegalRows {i : Instr} (h : i.illegal = true) : i ∈ illegalRows := by
  unfold Instr.illegal at h
  split at h
  case h_12 => cases h
  all_goals decide

/-- An illegal row takes no operand byte (R99). -/
theorem encode_illegal {i : Instr} (h : i.illegal = true) : encode i = [i.opcode] := by
  have rows : ∀ j ∈ illegalRows, encode j = [j.opcode] := by decide
  exact rows i (mem_illegalRows h)

/-- When the byte at PC is the whole encoding of an instruction, the step executes it after the one request. -/
theorem step_of_encode_eq_singleton {i : Instr} {op : Byte} {s : State} (hi : encode i = [op])
    (hrun : s.mode = .running) (hsrc : s.cfg.opcodeSource = .fetch) (hop : s.readByte s.pc = op) :
    step s = exec i (s.beginStep.afterRead s.pc) := by
  have hdecode : decode (bytesAtPc s) = .ok (i, (bytesAtPc s).tail) := by
    rw [bytesAtPc, hop]
    exact decode_of_encode_eq hi _
  have hstep := (stepRunsTheDecodedInstruction s i _ hrun).1 hsrc hdecode
  rw [hi] at hstep
  exact hstep

/-- Settles O26: `exec_illegal` gives the meaning of the 11 rows, and each is one byte long, so its step sends one
request. -/
theorem fatalOpcodesFault : Obligations.FatalOpcodesFault := by
  intro s
  constructor
  · intro p hp
    have hill : p.1.illegal = true ∧ p.1.opcode = p.2 := by
      revert p
      decide
    obtain ⟨hill, hop⟩ := hill
    have hexec : ∀ t : State, exec p.1 t = .next { t with mode := .faulted .illegalOpcode p.2 } :=
      fun t => hop ▸ exec_illegal hill t
    have henc : encode p.1 = [p.2] := hop ▸ encode_illegal hill
    exact ⟨henc, hexec s, fun hrun hsrc hbyte =>
      (step_of_encode_eq_singleton henc hrun hsrc hbyte).trans (hexec _)⟩
  · exact ⟨rfl, rfl, fun hrun hsrc hbyte =>
      (step_of_encode_eq_singleton (i := .prefixCb) rfl hrun hsrc hbyte).trans rfl⟩

end Sys2Proof.Machine
end

section
/-! The cost of an instruction (spec/30_encoding.md R98, spec/70_reset_and_hazards.md R341). -/

namespace Sys2Proof.Machine

open Sys2Proof Sys2Proof.Claims

-- the table of costs, by family of instructions

theorem cost_ld (dst r : Reg8) (s : State) : cost (.ld dst r) s = 4 := by cases dst <;> cases r <;> rfl
theorem cost_ldImm (dst : Reg8) (v : Byte) (s : State) : cost (.ldImm dst v) s = 8 := by cases dst <;> rfl
theorem cost_ldFromHl (dst : Reg8) (s : State) : cost (.ldFromHl dst) s = 8 := by cases dst <;> rfl
theorem cost_ldToHl (r : Reg8) (s : State) : cost (.ldToHl r) s = 8 := by cases r <;> rfl
theorem cost_alu (op : AluOp) (r : Reg8) (s : State) : cost (.alu op r) s = 4 := by cases op <;> cases r <;> rfl
theorem cost_aluHl (op : AluOp) (s : State) : cost (.aluHl op) s = 8 := by cases op <;> rfl
theorem cost_aluImm (op : AluOp) (v : Byte) (s : State) : cost (.aluImm op v) s = 8 := by cases op <;> rfl
theorem cost_inc (r : Reg8) (s : State) : cost (.inc r) s = 4 := by cases r <;> rfl
theorem cost_dec (r : Reg8) (s : State) : cost (.dec r) s = 4 := by cases r <;> rfl
theorem cost_ldPair (p : Pair) (w : Word) (s : State) : cost (.ldPair p w) s = 12 := by cases p <;> rfl
theorem cost_addHl (p : Pair) (s : State) : cost (.addHl p) s = 8 := by cases p <;> rfl
theorem cost_incPair (p : Pair) (s : State) : cost (.incPair p) s = 8 := by cases p <;> rfl
theorem cost_decPair (p : Pair) (s : State) : cost (.decPair p) s = 8 := by cases p <;> rfl
theorem cost_push (p : StackPair) (s : State) : cost (.push p) s = 16 := by cases p <;> rfl
theorem cost_pop (p : StackPair) (s : State) : cost (.pop p) s = 12 := by cases p <;> rfl
theorem cost_jrIf (cc : Cond) (e : Byte) (s : State) : cost (.jrIf cc e) s = if s.cond cc then 12 else 8 := by
  cases cc <;> rfl
theorem cost_jpIf (cc : Cond) (t : Word) (s : State) : cost (.jpIf cc t) s = if s.cond cc then 16 else 12 := by
  cases cc <;> rfl
theorem cost_callIf (cc : Cond) (t : Word) (s : State) : cost (.callIf cc t) s = if s.cond cc then 24 else 12 := by
  cases cc <;> rfl
theorem cost_retIf (cc : Cond) (s : State) : cost (.retIf cc) s = if s.cond cc then 20 else 8 := by
  cases cc <;> rfl
theorem cost_rst (y : BitVec 3) (s : State) : cost (.rst y) s = 16 := by
  obtain ⟨n, hn, rfl⟩ : ∃ n < 8, y = BitVec.ofNat 3 n := ⟨y.toNat, y.isLt, by simp⟩
  interval_cases n <;> rfl
theorem cost_illegal {i : Instr} (h : i.illegal = true) (s : State) : cost i s = 0 := by
  have rows : ∀ j ∈ illegalRows, cost j s = 0 := by simp [illegalRows, cost]
  exact rows i (mem_illegalRows h)

/-- Every cost is a multiple of 4 (R32). -/
theorem cost_mod_four (i : Instr) (s : State) : cost i s % 4 = 0 := by
  cases i with
  | jrNzR8 | jrZR8 | jrNcR8 | jrCR8 | jpNzA16 | jpZA16 | jpNcA16 | jpCA16
  | callNzA16 | callZA16 | callNcA16 | callCA16 | retNz | retZ | retNc | retC =>
    simp only [cost]
    split <;> rfl
  | _ => simp only [cost, Nat.reduceMod]

/-- Every meaning ends by adding its cost, and a fault adds none. -/
theorem Executes.cycles_eq {i : Instr} {m : State → State} (h : Executes i m) (s : State) :
    (m s).cycles = s.cycles + cost i s := by
  cases h with
  | ld => rw [cost_ld, loadReg_spec]
  | ldImm => rw [cost_ldImm, loadImm_spec]
  | ldFromHl dst => exact cost_ldFromHl dst s ▸ congrArg State.cycles (loadFrom_spec 1 8 dst s.hl s)
  | ldToHl r => exact cost_ldToHl r s ▸ congrArg State.cycles (storeTo_spec 1 8 s.hl (s.reg r) s)
  | alu op r =>
    obtain ⟨a, f, -, e⟩ := aluReg_spec op r s
    rw [cost_alu, e]
  | aluHl op =>
    obtain ⟨a, f, -, e⟩ := aluMem_spec op s
    rw [cost_aluHl, e]
  | aluImm op v =>
    obtain ⟨a, f, -, e⟩ := aluByte_spec op v s
    rw [cost_aluImm, e]
  | inc => rw [cost_inc, stepReg_spec]
  | dec => rw [cost_dec, stepReg_spec]
  | ldPair => rw [cost_ldPair, loadPair_spec]
  | addHl => rw [cost_addHl, addToHl_spec]
  | incPair => rw [cost_incPair, incPairBy1_spec]
  | decPair => rw [cost_decPair, decPairBy1_spec]
  | push => rw [cost_push, pushPair_spec]
  | pop => rw [cost_pop, popPair_spec]
  | jrIf => rw [cost_jrIf, jumpRelIf_spec]
  | jpIf => rw [cost_jpIf, jumpAbsIf_spec]
  | callIf => rw [cost_callIf, callAbsIf_spec, callAbs_spec]; split <;> rfl
  | retIf => rw [cost_retIf, returnIf_spec]; split <;> rfl
  | rst => rw [cost_rst, restart_spec]
  | illegal hi => rw [cost_illegal hi]; rfl
  | callA16 => rw [callAbs_spec]; rfl
  | ret | reti => rw [returnAlways_spec]; rfl
  | _ => rfl

/-- Settles O49, by `Executes.cycles_eq` and the table's entries. -/
theorem cyclesGrowByTheCost : Obligations.CyclesGrowByTheCost := by
  intro i s
  obtain ⟨m, hm⟩ := exists_executes i
  exact ⟨m s, hm.exec_eq s, hm.cycles_eq s, cost_mod_four i s⟩

end Sys2Proof.Machine
end

section
/-! 8-bit arithmetic and logic (spec/41_alu8.md R120 to R145): the operations of the ALU groups, whose results
and flags the rules give in integers. -/

namespace Sys2Proof.Machine

open Sys2Proof Sys2Proof.Claims

-- narrowing to a byte

theorem byte_ofInt_eq_zero_iff (x : Int) : BitVec.ofInt 8 x = 0 ↔ x % 256 = 0 := by
  rw [← BitVec.toNat_inj, BitVec.toNat_ofInt]
  change _ = 0 ↔ _
  omega

theorem byte_ofNat_eq_zero_iff (x : Nat) : BitVec.ofNat 8 x = 0 ↔ x % 256 = 0 := by
  rw [← BitVec.toNat_inj, BitVec.toNat_ofNat]
  rfl

-- the three operand forms of the ALU groups (R86)

theorem State.alu_advance (n : Nat) (op : AluOp) (v : Byte) (s : State) :
    (s.advance n).alu op v = (s.alu op v).advance n := by
  cases op <;> rfl

theorem tick_advance_eq_done (n k : Nat) (s : State) : (s.advance n).tick k = done n k s := rfl

theorem aluReg_eq_done (op : AluOp) (r : Reg8) (s : State) : aluReg op r s = done 1 4 (s.alu op (s.reg r)) := by
  rw [aluReg, State.alu_advance, tick_advance_eq_done]

theorem aluMem_eq_done (op : AluOp) (s : State) :
    aluMem op s = done 1 8 ((s.afterRead s.hl).alu op (s.readByte s.hl)) := by
  rw [← tick_advance_eq_done, ← State.alu_advance]
  rfl

theorem aluByte_eq_done (op : AluOp) (v : Byte) (s : State) : aluByte op v s = done 2 8 (s.alu op v) := by
  rw [aluByte, State.alu_advance, tick_advance_eq_done]

/-- What an ALU operation does to A and F carries over to its r, (HL) and d8 forms, with their encodings. -/
theorem alu_forms {op : AluOp} {m : Byte → State → State} (hm : ∀ v s, s.alu op v = m v s)
    (s : State) (r : Reg8) (v : Byte) :
    (encode (.alu op r) = [0b10#2 ++ op.code ++ r.code] ∧
      exec (.alu op r) s = .next (done 1 4 (m (s.reg r) s))) ∧
    (encode (.aluHl op) = [0b10#2 ++ op.code ++ 0b110#3] ∧
      exec (.aluHl op) s = .next (done 1 8 (m (s.readByte s.hl) (s.afterRead s.hl)))) ∧
    (encode (.aluImm op v) = [0b11#2 ++ op.code ++ 0b110#3, v] ∧
      exec (.aluImm op v) s = .next (done 2 8 (m v s))) := by
  refine ⟨⟨encode_alu op r, ?_⟩, ⟨encode_aluHl op, ?_⟩, encode_aluImm op v, ?_⟩
  · rw [exec_alu, aluReg_eq_done, hm]
  · rw [exec_aluHl, aluMem_eq_done, hm]
  · rw [exec_aluImm, aluByte_eq_done, hm]

-- ADD and ADC (R120)

theorem flagsOf_add8 (v : Byte) (cin : Bool) (s : State) :
    (s.setA (add8 s.a v cin).res).flagsOf (add8 s.a v cin) false = added v cin.toNat s := by
  have hzero : (add8 s.a v cin).res = 0 ↔ (s.a.toNat + v.toNat + cin.toNat) % 256 = 0 := byte_ofNat_eq_zero_iff _
  rw [State.flagsOf_spec, decide_eq_decide.mpr hzero]
  rfl

/-- Settles O1, by `flagsOf_add8` in each of the three forms. -/
theorem addAndAdcResults : Obligations.AddAndAdcResults := by
  intro s r v
  obtain ⟨addReg, addHl, addImm⟩ := alu_forms (op := .add) (m := fun v s => added v 0 s)
    (fun v s => flagsOf_add8 v false s) s r v
  obtain ⟨adcReg, adcHl, adcImm⟩ := alu_forms (op := .adc) (m := fun v s => added v s.flagC.toNat s)
    (fun v s => flagsOf_add8 v s.flagC s) s r v
  exact ⟨addReg, addHl, addImm, adcReg, adcHl, adcImm⟩

-- SUB, SBC and CP (R121)

/-- The flags of the model's comparisons are those of the exact differences, for both values of the parameter. -/
theorem packFlags_sub8 (v : Byte) (cin : Bool) (s : State) :
    packFlags (decide ((sub8 s.cfg.subHalfCarry s.a v cin).res = 0)) true (sub8 s.cfg.subHalfCarry s.a v cin).h
      (sub8 s.cfg.subHalfCarry s.a v cin).c = borrowFlags v cin.toNat s := by
  have hborrow : s.a.toNat < v.toNat + cin.toNat ↔ (s.a.toNat - v.toNat - cin.toNat : Int) < 0 := by omega
  have hlow : s.a.toNat % 16 < v.toNat % 16 + cin.toNat ↔
      ((s.a.toNat % 16 : Nat) - (v.toNat % 16 : Nat) - cin.toNat : Int) < 0 := by omega
  unfold borrowFlags
  cases s.cfg.subHalfCarry with
  | low => simp only [sub8, subHalf, byte_ofInt_eq_zero_iff, hlow, hborrow]
  | high => simp only [sub8, subHalf, byte_ofInt_eq_zero_iff, hborrow]

theorem flagsOf_sub8 (v : Byte) (cin : Bool) (s : State) :
    (s.setA (sub8 s.cfg.subHalfCarry s.a v cin).res).flagsOf (sub8 s.cfg.subHalfCarry s.a v cin) true =
      subtracted v cin.toNat s := by
  rw [State.flagsOf_spec, packFlags_sub8]
  rfl

/-- Settles O2, by `flagsOf_sub8` in each of the three forms. -/
theorem subAndSbcResults : Obligations.SubAndSbcResults := by
  intro s r v
  obtain ⟨subReg, subHl, subImm⟩ := alu_forms (op := .sub) (m := fun v s => subtracted v 0 s)
    (fun v s => flagsOf_sub8 v false s) s r v
  obtain ⟨sbcReg, sbcHl, sbcImm⟩ := alu_forms (op := .sbc) (m := fun v s => subtracted v s.flagC.toNat s)
    (fun v s => flagsOf_sub8 v s.flagC s) s r v
  exact ⟨subReg, subHl, subImm, sbcReg, sbcHl, sbcImm⟩

/-- A state whose F is packed from four flags has these flags. -/
theorem State.flags_of_f_eq_packFlags {s : State} {z n h c : Bool} (hf : s.f = packFlags z n h c) :
    s.flagZ = z ∧ s.flagN = n ∧ s.flagH = h ∧ s.flagC = c := by
  unfold State.flagZ State.flagN State.flagH State.flagC
  rw [hf]
  exact packFlags_bits z n h c

/-- Settles O3: CP leaves the flags of the subtraction, whose difference is 0 exactly for equal bytes and
negative exactly when A is below the operand. -/
theorem cpResults : Obligations.CpResults := by
  intro s r v
  obtain ⟨cpReg, cpHl, cpImm⟩ := alu_forms (op := .cp) (m := fun v s => { s with f := borrowFlags v 0 s })
    (fun v s => congrArg (fun f => { s with f := f }) (packFlags_sub8 v false s)) s r v
  obtain ⟨hz, -, -, hc⟩ := State.flags_of_f_eq_packFlags
    (s := done 2 8 { s with f := borrowFlags v 0 s }) rfl
  refine ⟨cpReg, cpHl, cpImm, ?_, ?_⟩
  · rw [cpImm.2, stateOr, hz, decide_eq_decide, ← BitVec.toNat_inj]
    omega
  · rw [cpImm.2, stateOr, hc, decide_eq_decide]
    omega

-- AND, XOR and OR (R137 to R145)

theorem State.bitwise_eq (res : Byte) (h : Bool) (s : State) : s.bitwise res h = Claims.bitwise res h s := by
  rw [State.bitwise_spec, decide_eq_decide.mpr BitVec.toNat_inj.symm]
  rfl

/-- Settles O4, by `State.bitwise_eq` in each of the three forms. -/
theorem bitwiseResults : Obligations.BitwiseResults := by
  intro s r v
  obtain ⟨andReg, andHl, andImm⟩ := alu_forms (op := .and) (m := fun v s => Claims.bitwise (s.a &&& v) true s)
    (fun v s => s.bitwise_eq (s.a &&& v) true) s r v
  obtain ⟨xorReg, xorHl, xorImm⟩ := alu_forms (op := .xor) (m := fun v s => Claims.bitwise (s.a ^^^ v) false s)
    (fun v s => s.bitwise_eq (s.a ^^^ v) false) s r v
  obtain ⟨orReg, orHl, orImm⟩ := alu_forms (op := .or) (m := fun v s => Claims.bitwise (s.a ||| v) false s)
    (fun v s => s.bitwise_eq (s.a ||| v) false) s r v
  exact ⟨andReg, andHl, andImm, xorReg, xorHl, xorImm, orReg, orHl, orImm⟩

end Sys2Proof.Machine
end

section
/-! INC, DEC, CPL, SCF, CCF and DAA (spec/41_alu8.md R146 to R155). -/

namespace Sys2Proof.Machine

open Sys2Proof Sys2Proof.Claims

-- exact differences, narrowed to a byte

theorem byte_eq_ofInt_toNat (v : Byte) : v = BitVec.ofInt 8 v.toNat := by
  rw [BitVec.ofInt_natCast, BitVec.ofNat_toNat, BitVec.setWidth_eq]

theorem byte_ofInt_sub_ofNat (x : Int) (k : Nat) :
    BitVec.ofInt 8 x - BitVec.ofNat 8 k = BitVec.ofInt 8 (x - k) := by
  rw [Int.sub_eq_add_neg, BitVec.ofInt_add, BitVec.ofInt_neg, BitVec.ofInt_natCast, BitVec.sub_eq_add_neg]

/-- A byte that moves down by `k` on a condition. -/
theorem byte_ite_sub (b : Bool) (x : Int) (k : Nat) :
    (if b then BitVec.ofInt 8 x - BitVec.ofNat 8 k else BitVec.ofInt 8 x) =
      BitVec.ofInt 8 (x - if b then (k : Int) else 0) := by
  cases b with
  | true => exact byte_ofInt_sub_ofNat x k
  | false => exact congrArg (BitVec.ofInt 8) (Int.sub_zero x).symm

-- INC and DEC of a byte (R146 to R151)

theorem inc8_res (v : Byte) : (inc8 v).res = BitVec.ofNat 8 (v.toNat + 1) := by
  rw [BitVec.ofNat_add, BitVec.ofNat_toNat, BitVec.setWidth_eq]
  rfl

theorem dec8_res (v : Byte) : (dec8 v).res = BitVec.ofInt 8 (v.toNat - 1) := by
  conv_lhs => rw [byte_eq_ofInt_toNat v]
  exact byte_ofInt_sub_ofNat v.toNat 1

/-- The comparisons of the old byte with the new one (R146) tell where the low nibble and the byte wrap. -/
theorem packFlags_inc8 (v : Byte) :
    packFlags (decide ((inc8 v).res = 0)) false (inc8 v).h (inc8 v).c = incFlags v := by
  have hnew : (v + 1).toNat = (v.toNat + 1) % 256 := BitVec.toNat_add v 1
  have hzero : v + 1 = 0 ↔ v.toNat = 0xFF := by
    rw [← BitVec.toNat_inj, hnew]
    change _ = 0 ↔ _
    omega
  have hhalf : (v + 1).toNat % 16 < v.toNat % 16 ↔ v.toNat % 16 = 0xF := by omega
  have hcarry : v + 1 < v ↔ v.toNat = 0xFF := by
    rw [BitVec.lt_def]
    omega
  simp only [inc8, incFlags, hzero, hhalf, hcarry]

/-- The comparisons of the old byte with the new one (R147) tell where the low nibble and the byte borrow. -/
theorem packFlags_dec8 (v : Byte) :
    packFlags (decide ((dec8 v).res = 0)) true (dec8 v).h (dec8 v).c = decFlags v := by
  have hnew : (v - 1).toNat = (256 - 1 + v.toNat) % 256 := BitVec.toNat_sub v 1
  have hzero : v - 1 = 0 ↔ v.toNat = 1 := by
    rw [← BitVec.toNat_inj, hnew]
    change _ = 0 ↔ _
    omega
  have hhalf : (v - 1).toNat % 16 > v.toNat % 16 ↔ v.toNat % 16 = 0 := by omega
  have hborrow : v - 1 > v ↔ v.toNat = 0 := by
    rw [gt_iff_lt, BitVec.lt_def]
    omega
  simp only [dec8, decFlags, hzero, hhalf, hborrow]

theorem encode_inc (r : Reg8) : encode (.inc r) = [0b00#2 ++ r.code ++ 0b100#3] := by cases r <;> rfl
theorem encode_dec (r : Reg8) : encode (.dec r) = [0b00#2 ++ r.code ++ 0b101#3] := by cases r <;> rfl

/-- Settles O5: the byte by `inc8_res` and `dec8_res`, the flags by `packFlags_inc8` and `packFlags_dec8`. -/
theorem incDecByteResults : Obligations.IncDecByteResults := by
  intro s r
  refine ⟨⟨encode_inc r, ?_⟩, ⟨rfl, ?_⟩, ⟨encode_dec r, ?_⟩, rfl, ?_⟩
  · rw [exec_inc, stepReg_spec, packFlags_inc8, inc8_res]
    simp [done]
  · rw [Executes.incIndHl.exec_eq, stepMem_spec, packFlags_inc8, inc8_res]
    rfl
  · rw [exec_dec, stepReg_spec, packFlags_dec8, dec8_res]
    simp [done]
  · rw [Executes.decIndHl.exec_eq, stepMem_spec, packFlags_dec8, dec8_res]
    rfl

-- CPL, SCF and CCF (R152, R154, R155)

/-- Settles O6; CPL's complement is the distance of A to 0xFF. -/
theorem cplScfCcfResults : Obligations.CplScfCcfResults := by
  intro s
  have hnot : ~~~s.a = 0xFF - s.a := (BitVec.allOnes_sub_eq_not s.a).symm
  refine ⟨⟨rfl, ?_⟩, ⟨rfl, rfl⟩, rfl, rfl⟩
  rw [Executes.cpl.exec_eq, complementA_spec, hnot]
  rfl

-- DAA (R153)

/-- After a subtraction no digit is tested: each adjustment is an exact difference. -/
theorem daaResult_of_sub (h c : Bool) (a : Byte) : daaResult true h c a = BitVec.ofInt 8 (daaSum true h c a) := by
  conv_lhs => rw [byte_eq_ofInt_toNat a]
  change (if h then (if c then _ - BitVec.ofNat 8 0x60 else _) - BitVec.ofNat 8 0x06
    else if c then _ - BitVec.ofNat 8 0x60 else _) = _
  rw [byte_ite_sub, byte_ite_sub]
  rfl

/-- The low digit is tested on the narrowed byte, which has the low digit of the exact sum. -/
theorem byte_adjustLowDigit (h : Bool) (n : Nat) :
    (if h || decide ((BitVec.ofNat 8 n).toNat % 16 > 9) then BitVec.ofNat 8 n + 6 else BitVec.ofNat 8 n) =
      BitVec.ofInt 8 (n + if h || decide (9 < n % 16) then 6 else 0) := by
  have hdigit : (BitVec.ofNat 8 n).toNat % 16 = n % 16 := by
    rw [BitVec.toNat_ofNat]
    omega
  rw [hdigit]
  split
  · exact (BitVec.ofNat_add n 6).symm.trans (BitVec.ofInt_natCast 8 (n + 6)).symm
  · rw [Int.add_zero, BitVec.ofInt_natCast]

theorem daaResult_of_add (h c : Bool) (a : Byte) : daaResult false h c a = BitVec.ofInt 8 (daaSum false h c a) := by
  have hhigh : (if daaCarry false c a then a + 0x60 else a) =
      BitVec.ofNat 8 (a.toNat + if daaCarry false c a then 0x60 else 0) := by
    split <;> simp [BitVec.ofNat_add]
  change (if h || decide ((if daaCarry false c a then a + 0x60 else a).toNat % 16 > 9)
    then (if daaCarry false c a then a + 0x60 else a) + 6 else if daaCarry false c a then a + 0x60 else a) = _
  rw [hhigh]
  exact byte_adjustLowDigit h _

theorem daaResult_eq_ofInt (n h c : Bool) (a : Byte) : daaResult n h c a = BitVec.ofInt 8 (daaSum n h c a) := by
  cases n with
  | true => exact daaResult_of_sub h c a
  | false => exact daaResult_of_add h c a

theorem daaCarry_eq (n c : Bool) (a : Byte) : daaCarry n c a = (c || (!n && decide (0x99 < a.toNat))) := by
  cases n with
  | true => exact (Bool.or_false c).symm
  | false => rfl

namespace Daa

/-- Settles O7, by `daaResult_eq_ofInt` and `daaCarry_eq`. (The model has a function of this name.) -/
theorem daaResult : Obligations.DaaResult := by
  intro s
  have hzero := byte_ofInt_eq_zero_iff (daaSum s.flagN s.flagH s.flagC s.a)
  refine ⟨rfl, ?_⟩
  rw [Executes.daa.exec_eq, decimalAdjust_spec, daaResult_eq_ofInt, daaCarry_eq, decide_eq_decide.mpr hzero]
  rfl

end Daa

end Sys2Proof.Machine
end

section
/-! Decimal addition: ADC and then DAA on two-digit operands (spec/41_alu8.md R153). The binary sum is
`16 * t + u` for a tens column `t` and a units column `u`, where the decimal sum is `10 * t + u`. -/

namespace Sys2Proof.Machine

open Sys2Proof Sys2Proof.Claims

theorem isBcd_iff (v : Byte) : isBcd v = true ↔ v.toNat % 16 ≤ 9 ∧ v.toNat / 16 ≤ 9 := by
  rw [isBcd, Bool.and_eq_true, decide_eq_true_eq, decide_eq_true_eq]

/-- A byte made of the two digits of a number below 100 is its decimal form. -/
theorem bcd_of_toNat {v : Byte} {n : Nat} (hn : n < 100) (hv : v.toNat = n / 10 * 16 + n % 10) :
    isBcd v = true ∧ bcdValue v = n := by
  rw [isBcd_iff, bcdValue, hv]
  omega

/-- The columns of two decimal operands with a carry-in: their binary and their decimal sum. -/
theorem bcd_columns {a v : Byte} {cin : Nat} (ha : isBcd a = true) (hv : isBcd v = true) (hcin : cin ≤ 1) :
    ∃ t ≤ 18, ∃ u ≤ 19, a.toNat % 16 + v.toNat % 16 + cin = u ∧ a.toNat + v.toNat + cin = 16 * t + u ∧
      bcdValue a + bcdValue v + cin = 10 * t + u := by
  rw [isBcd_iff] at ha hv
  refine ⟨a.toNat / 16 + v.toNat / 16, by omega, a.toNat % 16 + v.toNat % 16 + cin, by omega, rfl, by omega, ?_⟩
  unfold bcdValue
  omega

section
variable {t u : Nat} (hu : u ≤ 19) (ht : t ≤ 18)
include hu

/-- H of the binary sum, or a low digit that DAA corrects, tells that the units carry into the tens. -/
theorem tens_carry (b : Bool) :
    (decide (0xF < u) || decide (9 < ((BitVec.ofNat 8 (16 * t + u)).toNat + if b then 0x60 else 0) % 16)) =
      decide (10 ≤ u) := by
  rw [BitVec.toNat_ofNat, ← Bool.decide_or, decide_eq_decide]
  split <;> omega

include ht

/-- C of the binary sum, or a high digit that DAA corrects, tells that the decimal sum has a hundred. -/
theorem hundreds_carry :
    (decide (0xFF < 16 * t + u) || decide (0x99 < (BitVec.ofNat 8 (16 * t + u)).toNat)) =
      decide (100 ≤ 10 * t + u) := by
  rw [BitVec.toNat_ofNat, ← Bool.decide_or, decide_eq_decide]
  omega

/-- DAA adds 6 for each decimal carry, in the digit that carries. -/
theorem daaSum_of_columns :
    daaSum false (decide (0xF < u)) (decide (0xFF < 16 * t + u)) (BitVec.ofNat 8 (16 * t + u)) =
      (((16 * t + u) % 256 + (if decide (100 ≤ 10 * t + u) then 0x60 else 0) : Nat) : Int) +
        if decide (10 ≤ u) then 0x06 else 0 := by
  rw [← hundreds_carry hu ht, ← tens_carry hu]
  rfl

/-- The corrected byte holds the two digits of the decimal sum. -/
theorem toNat_daaSum_of_columns :
    (BitVec.ofInt 8
      (daaSum false (decide (0xF < u)) (decide (0xFF < 16 * t + u)) (BitVec.ofNat 8 (16 * t + u)))).toNat =
      (10 * t + u) % 100 / 10 * 16 + (10 * t + u) % 100 % 10 := by
  have htens : (10 * t + u) % 100 / 10 =
      t + (if 10 ≤ u then 1 else 0) - if 100 ≤ 10 * t + u then 10 else 0 := by
    split <;> split <;> omega
  have hunits : (10 * t + u) % 100 % 10 = u - if 10 ≤ u then 10 else 0 := by split <;> omega
  rw [BitVec.toNat_ofInt, daaSum_of_columns hu ht, htens, hunits]
  simp only [decide_eq_true_eq]
  split <;> split <;> omega

end

/-- What ADC A,d8 leaves for a DAA to read. -/
theorem exec_adcImm (v : Byte) (s : State) :
    ∃ t, exec (.aluImm .adc v) s = .next t ∧ t.a = BitVec.ofNat 8 (s.a.toNat + v.toNat + s.flagC.toNat) ∧
      t.flagN = false ∧ t.flagH = decide (0xF < s.a.toNat % 16 + v.toNat % 16 + s.flagC.toNat) ∧
      t.flagC = decide (0xFF < s.a.toNat + v.toNat + s.flagC.toNat) := by
  obtain ⟨-, -, -, -, -, -, hexec⟩ := addAndAdcResults s .a v
  exact ⟨_, hexec, rfl, (State.flags_of_f_eq_packFlags rfl).2⟩

/-- What DAA leaves in A and in C. -/
theorem exec_daa (s : State) :
    ∃ t, exec .daa s = .next t ∧ t.a = BitVec.ofInt 8 (daaSum s.flagN s.flagH s.flagC s.a) ∧
      t.flagC = (s.flagC || (!s.flagN && decide (0x99 < s.a.toNat))) := by
  obtain ⟨-, hexec⟩ := Daa.daaResult s
  exact ⟨_, hexec, rfl, (State.flags_of_f_eq_packFlags rfl).2.2.2⟩

/-- Settles O59: the columns of the operands give the flags and the byte that DAA reads, and DAA's correction of
that byte is the decimal sum. -/
theorem decimalAddition : Obligations.DecimalAddition := by
  intro s v ha hv
  obtain ⟨m, hm, n, hn, hunits, hsum, htotal⟩ := bcd_columns ha hv s.flagC.toNat_le
  obtain ⟨t, hadc, hres, hN, hH, hC⟩ := exec_adcImm v s
  obtain ⟨u, hdaa, hbyte, hcarry⟩ := exec_daa t
  rw [hunits] at hH
  rw [hsum] at hres hC
  rw [hN, hH, hC, hres] at hbyte
  rw [hN, hC, hres] at hcarry
  obtain ⟨hbcd, hval⟩ := bcd_of_toNat (Nat.mod_lt (10 * m + n) (by decide))
    ((congrArg BitVec.toNat hbyte).trans (toNat_daaSum_of_columns hn hm))
  rw [htotal]
  exact ⟨t, u, hadc, hdaa, hbcd, hval, hcarry.trans (hundreds_carry hn hm)⟩

end Sys2Proof.Machine
end

section
/-! 16-bit arithmetic (spec/42_alu16.md R170 to R175). -/

namespace Sys2Proof.Machine

open Sys2Proof Sys2Proof.Claims

-- exact sums and differences, narrowed to a word

theorem word_ofInt_toNat (w : Word) : BitVec.ofInt 16 w.toNat = w := by
  rw [BitVec.ofInt_natCast, BitVec.ofNat_toNat, BitVec.setWidth_eq]

theorem word_add_one (w : Word) : w + 1 = BitVec.ofNat 16 (w.toNat + 1) := by
  rw [BitVec.ofNat_add, BitVec.ofNat_toNat, BitVec.setWidth_eq]
  rfl

theorem word_sub_one (w : Word) : w - 1 = BitVec.ofInt 16 (w.toNat - 1) := by
  rw [Int.sub_eq_add_neg, BitVec.ofInt_add, word_ofInt_toNat, BitVec.sub_eq_add_neg]
  rfl

/-- Sign extension adds the signed value (spec/00_scope.md R8). -/
theorem word_add_sext16 (w : Word) (e : Byte) : w + sext16 e = displaced w.toNat e := by
  rw [displaced, BitVec.ofInt_add, word_ofInt_toNat]
  rfl

-- ADD HL,rr (R170)

theorem lo8_toNat_mod_16 (w : Word) : (lo8 w).toNat % 16 = w.toNat % 16 := by
  rw [lo8, BitVec.extractLsb'_toNat, Nat.shiftRight_zero]
  omega

theorem State.lo8_hl (s : State) : lo8 s.hl = s.l := lo8_wordOf s.h s.l

/-- The model tests the low nibbles of the words, which are those of their low bytes. -/
theorem add16Half_hl (w : Word) (s : State) :
    add16Half s.hl w = decide (0xF < s.l.toNat % 16 + (lo8 w).toNat % 16) := by
  rw [← s.lo8_hl, lo8_toNat_mod_16, lo8_toNat_mod_16]
  rfl

theorem encode_addHl (p : Pair) : encode (.addHl p) = [0b00#2 ++ p.code ++ 0b1001#4] := by cases p <;> rfl

/-- Settles O8; H by `add16Half_hl`. -/
theorem addHlResult : Obligations.AddHlResult := by
  intro s p
  refine ⟨encode_addHl p, ?_⟩
  rw [exec_addHl, addToHl_spec, add16Half_hl]
  rfl

-- INC rr and DEC rr (R171, R172)

theorem encode_incPair (p : Pair) : encode (.incPair p) = [0b00#2 ++ p.code ++ 0b0011#4] := by cases p <;> rfl
theorem encode_decPair (p : Pair) : encode (.decPair p) = [0b00#2 ++ p.code ++ 0b1011#4] := by cases p <;> rfl

/-- Settles O9, by `word_add_one` and `word_sub_one`. -/
theorem incDecPairResults : Obligations.IncDecPairResults := by
  intro s p
  refine ⟨⟨encode_incPair p, ?_⟩, encode_decPair p, ?_⟩
  · rw [exec_incPair, incPairBy1_spec, word_add_one]
    simp only [done, State.setPair_pc, State.setPair_cycles]
  · rw [exec_decPair, decPairBy1_spec, word_sub_one]
    simp only [done, State.setPair_pc, State.setPair_cycles]

-- ADD SP,r8 and LD HL,SP+r8 (R173 to R175)

/-- Settles O10: both instructions leave the sum of R173, which is `word_add_sext16`. -/
theorem spOffsetResults : Obligations.SpOffsetResults := by
  intro s e
  have hsum : spPlus s.sp e = displaced s.sp.toNat e := word_add_sext16 s.sp e
  refine ⟨⟨rfl, ?_⟩, rfl, ?_⟩
  · rw [(Executes.addSpR8 e).exec_eq, addSpOffset_spec, hsum]
    rfl
  · rw [(Executes.ldHlSpR8 e).exec_eq, loadHlSpOffset_spec, hsum]
    rfl

end Sys2Proof.Machine
end

section
/-! The accumulator rotates (spec/43_rotate.md R180 to R183). -/

namespace Sys2Proof.Machine

open Sys2Proof Sys2Proof.Claims

theorem bit8_toNat (b : Bool) : (bit8 b).toNat = b.toNat := by cases b <;> rfl

-- The bit that comes in lies where the shift leaves a zero, so joining it is an exact sum.

theorem shiftLeftIn_eq_ofNat (v : Byte) (b : Bool) :
    shiftLeftIn v b = BitVec.ofNat 8 (2 * v.toNat + b.toNat) := by
  have hb : b.toNat < 2 ^ 1 := b.toNat_lt
  have hsum : v.toNat <<< 1 ||| b.toNat = 2 * v.toNat + b.toNat := by
    rw [← Nat.shiftLeft_add_eq_or_of_lt hb, Nat.shiftLeft_eq, Nat.mul_comm]
  have hmod : b.toNat % 2 ^ 8 = b.toNat := Nat.mod_eq_of_lt (by omega)
  apply BitVec.eq_of_toNat_eq
  rw [shiftLeftIn, BitVec.toNat_or, BitVec.toNat_shiftLeft, bit8_toNat, BitVec.toNat_ofNat, ← hsum,
    Nat.or_mod_two_pow, hmod]

theorem shiftRightIn_eq_ofNat (v : Byte) (b : Bool) :
    shiftRightIn v b = BitVec.ofNat 8 (v.toNat / 2 + 128 * b.toNat) := by
  have hv : v.toNat / 2 < 2 ^ 7 := by omega
  have hsum : v.toNat / 2 ||| b.toNat <<< 7 = v.toNat / 2 + 128 * b.toNat := by
    rw [Nat.or_comm, ← Nat.shiftLeft_add_eq_or_of_lt hv, Nat.shiftLeft_eq, Nat.mul_comm, Nat.add_comm]
  have hmod : v.toNat / 2 % 2 ^ 8 = v.toNat / 2 := Nat.mod_eq_of_lt (by omega)
  apply BitVec.eq_of_toNat_eq
  rw [shiftRightIn, BitVec.toNat_or, BitVec.toNat_ushiftRight, BitVec.toNat_shiftLeft, bit8_toNat,
    BitVec.toNat_ofNat, ← hsum, Nat.or_mod_two_pow, hmod, Nat.shiftRight_eq_div_pow, Nat.pow_one]

-- When the bit that comes in is the one shifted out, the shift is a rotation.

theorem bit8_getLsbD_seven (v : Byte) : bit8 (v.getLsbD 7) = v >>> 7 := by
  apply BitVec.eq_of_toNat_eq
  rw [bit8_toNat, BitVec.getLsbD, Nat.toNat_testBit, BitVec.toNat_ushiftRight, Nat.shiftRight_eq_div_pow]
  omega

theorem bit8_getLsbD_zero_shiftLeft (v : Byte) : bit8 (v.getLsbD 0) <<< 7 = v <<< 7 := by
  apply BitVec.eq_of_toNat_eq
  rw [BitVec.toNat_shiftLeft, BitVec.toNat_shiftLeft, bit8_toNat, BitVec.getLsbD, Nat.toNat_testBit,
    Nat.shiftLeft_eq, Nat.shiftLeft_eq]
  omega

theorem shiftLeftIn_bit_seven (v : Byte) : shiftLeftIn v (v.getLsbD 7) = v.rotateLeft 1 :=
  congrArg (v <<< 1 ||| ·) (bit8_getLsbD_seven v)

theorem shiftRightIn_bit_zero (v : Byte) : shiftRightIn v (v.getLsbD 0) = v.rotateRight 1 :=
  congrArg (v >>> 1 ||| ·) (bit8_getLsbD_zero_shiftLeft v)

/-- Settles O11: the model's shifts are the rotations of R180 and R181 and the sums of R182 and R183. -/
theorem rotateResults : Obligations.RotateResults := by
  intro s
  refine ⟨⟨rfl, ?_⟩, ⟨rfl, ?_⟩, ⟨rfl, ?_⟩, rfl, ?_⟩
  · rw [Executes.rlca.exec_eq, shiftLeftIn_bit_seven, rotateA_spec]
    rfl
  · rw [Executes.rrca.exec_eq, shiftRightIn_bit_zero, rotateA_spec]
    rfl
  · rw [Executes.rla.exec_eq, shiftLeftIn_eq_ofNat, rotateA_spec]
    rfl
  · rw [Executes.rra.exec_eq, shiftRightIn_eq_ofNat, rotateA_spec]
    rfl

end Sys2Proof.Machine
end

section
/-! Loads and stores (spec/44_load.md R190 to R211): each shared operation is its data accesses and its register
writes on the state it starts from, then PC and cycles moved past the instruction. -/

namespace Sys2Proof.Machine

open Sys2Proof Sys2Proof.Claims

-- the shared operations

theorem loadReg_eq_done (dst r : Reg8) (s : State) : loadReg dst r s = done 1 4 (s.setReg dst (s.reg r)) := by
  rw [loadReg_spec, done, State.setReg_pc, State.setReg_cycles]

theorem loadImm_eq_done (dst : Reg8) (v : Byte) (s : State) : loadImm dst v s = done 2 8 (s.setReg dst v) := by
  rw [loadImm_spec, done, State.setReg_pc, State.setReg_cycles]

theorem loadFrom_eq_done (n k : Nat) (dst : Reg8) (x : Word) (s : State) :
    loadFrom n k dst x s = done n k ((s.afterRead x).setReg dst (s.readByte x)) := by
  rw [loadFrom_spec, done, State.setReg_pc, State.setReg_cycles, State.afterRead_pc, State.afterRead_cycles]

/-- A load of A, the register of every load but LD r,(HL). -/
theorem loadFrom_a_eq_done (n k : Nat) (x : Word) (s : State) :
    loadFrom n k .a x s = done n k { s.afterRead x with a := s.readByte x } :=
  loadFrom_eq_done n k .a x s

theorem storeTo_eq_done (n k : Nat) (x : Word) (v : Byte) (s : State) :
    storeTo n k x v s = done n k (s.writeByte x v) := rfl

theorem loadPair_eq_done (p : Pair) (w : Word) (s : State) : loadPair p w s = done 3 12 (s.setPair p w) := by
  rw [loadPair_spec, done, State.setPair_pc, State.setPair_cycles]

/-- HL may move before or after PC and cycles do. -/
theorem setHl_done (w : Word) (n k : Nat) (s : State) : (done n k s).setHl w = done n k (s.setHl w) := rfl

theorem storeHlMove_eq_done (d : Word) (s : State) :
    storeHlMove d s = done 1 8 ((s.writeByte s.hl s.a).setHl (s.hl + d)) := by
  rw [storeHlMove, storeTo_eq_done, setHl_done]

theorem loadHlMove_eq_done (d : Word) (s : State) :
    loadHlMove d s = done 1 8 ({ s.afterRead s.hl with a := s.readByte s.hl }.setHl (s.hl + d)) := by
  rw [loadHlMove, loadFrom_a_eq_done, setHl_done]

-- LD r,r' and LD r,d8 (R190, R191)

theorem encode_ldImm (dst : Reg8) (v : Byte) : encode (.ldImm dst v) = [0b00#2 ++ dst.code ++ 0b110#3, v] := by
  cases dst <;> rfl

/-- Settles O12, by `loadReg_eq_done` and `loadImm_eq_done` for every register choice at once. -/
theorem loadRegisterResults : Obligations.LoadRegisterResults := by
  intro s dst r v
  refine ⟨⟨encode_ld dst r, ?_⟩, encode_ldImm dst v, ?_⟩
  · rw [exec_ld, loadReg_eq_done]
  · rw [exec_ldImm, loadImm_eq_done]

-- LD r,(HL), LD (HL),r and LD (HL),d8 (R192 to R194)

/-- Settles O13: one access at the HL of the state before, by `loadFrom_eq_done` and `storeTo_eq_done`. -/
theorem loadStoreThroughHlResults : Obligations.LoadStoreThroughHlResults := by
  intro s r v
  refine ⟨⟨encode_ldFromHl r, ?_⟩, ⟨encode_ldToHl r, ?_⟩, rfl, ?_⟩
  · rw [exec_ldFromHl, loadFrom_eq_done]
  · rw [exec_ldToHl, storeTo_eq_done]
  · rw [(Executes.ldIndHlD8 v).exec_eq, storeTo_eq_done]

-- LD BC,A, LD (DE),A, LD A,(BC) and LD A,(DE) (R195 to R198)

theorem zext16_eq_wordOf (v : Byte) : zext16 v = wordOf 0x00 v :=
  BitVec.setWidth_eq_append (by decide)

theorem widenAIntoBc_eq_done (s : State) : widenAIntoBc s = done 1 8 { s with b := 0x00, c := s.a } := by
  rw [widenAIntoBc_spec, zext16_eq_wordOf, hi8_wordOf, lo8_wordOf]
  rfl

/-- Settles O14: the accesses by `loadFrom_a_eq_done` and `storeTo_eq_done`; the widened A has high byte 0. -/
theorem accumulatorThroughBcDe : Obligations.AccumulatorThroughBcDe := by
  intro s
  refine ⟨⟨rfl, ?_⟩, ⟨rfl, ?_⟩, ⟨rfl, ?_⟩, rfl, ?_⟩
  · rw [Executes.ldBcA.exec_eq, widenAIntoBc_eq_done]
  · rw [Executes.ldIndDeA.exec_eq, storeTo_eq_done]
  · rw [Executes.ldAIndBc.exec_eq, loadFrom_a_eq_done]
  · rw [Executes.ldAIndDe.exec_eq, loadFrom_a_eq_done]

-- LD (HL±),A and LD A,(HL±) (R199 to R202)

theorem word_add_neg_one (w : Word) : w + -1 = BitVec.ofInt 16 (w.toNat - 1) := by
  rw [← word_sub_one, BitVec.sub_eq_add_neg]

/-- Settles O15; HL moves by `word_add_one` and `word_add_neg_one`. -/
theorem postIncrementDecrementThroughHl : Obligations.PostIncrementDecrementThroughHl := by
  intro s
  refine ⟨⟨rfl, ?_⟩, ⟨rfl, ?_⟩, ⟨rfl, ?_⟩, rfl, ?_⟩
  · rw [Executes.ldIndHlIncA.exec_eq, storeHlMove_eq_done, word_add_one]
  · rw [Executes.ldIndHlDecA.exec_eq, storeHlMove_eq_done, word_add_neg_one]
  · rw [Executes.ldAIndHlInc.exec_eq, loadHlMove_eq_done, word_add_one]
  · rw [Executes.ldAIndHlDec.exec_eq, loadHlMove_eq_done, word_add_neg_one]

-- LD rr,d16, LD (a16),SP and LD SP,HL (R203, R204, R211)

theorem encode_ldPair (p : Pair) (w : Word) :
    encode (.ldPair p w) = [0b00#2 ++ p.code ++ 0b0001#4, lo8 w, hi8 w] := by
  cases p <;> rfl

theorem storeSp_eq_done (t : Word) (s : State) :
    storeSp t s = done 3 20 ((s.writeByte t (lo8 s.sp)).writeByte (t + 1) (hi8 s.sp)) := rfl

theorem copyHlToSp_eq_done (s : State) : copyHlToSp s = done 1 8 { s with sp := s.hl } := rfl

/-- Settles O16; the word write of `storeSp_eq_done` sends the low byte first. -/
theorem wordLoadResults : Obligations.WordLoadResults := by
  intro s p w
  refine ⟨⟨encode_ldPair p w, ?_⟩, ⟨rfl, ?_⟩, rfl, ?_⟩
  · rw [exec_ldPair, loadPair_eq_done]
  · rw [(Executes.ldIndA16Sp w).exec_eq, storeSp_eq_done]
  · rw [Executes.ldSpHl.exec_eq, copyHlToSp_eq_done]

-- the high page (R205 to R208) and an absolute address (R209, R210)

/-- Settles O17: one access, whose address in the high page is `highPage_eq_wordOf`. -/
theorem highPageAndAbsoluteResults : Obligations.HighPageAndAbsoluteResults := by
  intro s o t
  refine ⟨⟨rfl, ?_⟩, ⟨rfl, ?_⟩, ⟨rfl, ?_⟩, ⟨rfl, ?_⟩, ⟨rfl, ?_⟩, rfl, ?_⟩
  · rw [(Executes.ldhIndA8A o).exec_eq, highPage_eq_wordOf, storeTo_eq_done]
  · rw [(Executes.ldhAIndA8 o).exec_eq, highPage_eq_wordOf, loadFrom_a_eq_done]
  · rw [Executes.ldIndCA.exec_eq, highPage_eq_wordOf, storeTo_eq_done]
  · rw [Executes.ldAIndC.exec_eq, highPage_eq_wordOf, loadFrom_a_eq_done]
  · rw [(Executes.ldIndA16A t).exec_eq, storeTo_eq_done]
  · rw [(Executes.ldAIndA16 t).exec_eq, loadFrom_a_eq_done]

end Sys2Proof.Machine
end

section
/-! Control transfer (spec/45_control.md R230, R233 to R243): a transfer under a condition is the unconditional one
when it is taken, and else moves PC and cycles past the instruction. -/

namespace Sys2Proof.Machine

open Sys2Proof Sys2Proof.Claims

-- the conditions (R230)

/-- A condition reads Z and C alone. -/
theorem State.cond_congr {s t : State} (hz : s.flagZ = t.flagZ) (hc : s.flagC = t.flagC) (cc : Cond) :
    s.cond cc = t.cond cc := by
  cases cc with
  | nz | z => simp only [State.cond, hz]
  | nc | c => simp only [State.cond, hc]

/-- Settles O40; a flag update without Z and C keeps both, so `State.cond_congr` applies to it. -/
theorem conditionsTestZAndC : Obligations.ConditionsTestZAndC := by
  refine ⟨fun s => ⟨?_, Iff.rfl, ?_, Iff.rfl⟩, rfl, fun s n h cc => ?_⟩
  · rw [State.cond, Bool.not_eq_true']
  · rw [State.cond, Bool.not_eq_true']
  · exact State.cond_congr (State.flagZ_setFlags ..) (State.flagC_setFlags ..) cc

-- JR r8 and JR cc,r8 (R233, R234)

/-- The displacement is added to the exact address after the instruction, and the sum is wrapped once. -/
theorem word_add_ofNat_add_sext16 (w : Word) (n : Nat) (e : Byte) :
    w + BitVec.ofNat 16 n + sext16 e = displaced (w.toNat + n) e := by
  rw [displaced, BitVec.ofInt_add, BitVec.ofInt_natCast, BitVec.ofNat_add, BitVec.ofNat_toNat, BitVec.setWidth_eq]
  rfl

theorem jumpRel_eq_displaced (e : Byte) (s : State) :
    jumpRel e s = { s with pc := displaced (s.pc.toNat + 2) e, cycles := s.cycles + 12 } := by
  rw [jumpRel_spec, word_add_ofNat_add_sext16]

theorem jumpRelIf_eq_ite (cc : Cond) (e : Byte) (s : State) :
    jumpRelIf cc e s = if s.cond cc then jumpRel e s else done 2 8 s := rfl

theorem encode_jrIf (cc : Cond) (e : Byte) : encode (.jrIf cc e) = [0b001#3 ++ cc.code ++ 0b000#3, e] := by
  cases cc <;> rfl

/-- Settles O18, by `jumpRel_eq_displaced` for the jump that is taken. -/
theorem relativeJumpResults : Obligations.RelativeJumpResults := by
  intro s cc e
  refine ⟨⟨rfl, ?_⟩, encode_jrIf cc e, ?_⟩
  · rw [(Executes.jrR8 e).exec_eq, jumpRel_eq_displaced]
  · rw [exec_jrIf, jumpRelIf_eq_ite, jumpRel_eq_displaced, apply_ite Host.Outcome.next]

-- JP a16, JP cc,a16 and JP HL (R235 to R237)

theorem jumpAbsIf_eq_ite (cc : Cond) (t : Word) (s : State) :
    jumpAbsIf cc t s = if s.cond cc then jumpAbs t s else done 3 12 s := rfl

theorem encode_jpIf (cc : Cond) (t : Word) :
    encode (.jpIf cc t) = [0b110#3 ++ cc.code ++ 0b010#3, lo8 t, hi8 t] := by
  cases cc <;> rfl

/-- Settles O19; every target is a word that the state or the instruction holds. -/
theorem absoluteJumpResults : Obligations.AbsoluteJumpResults := by
  intro s cc t
  refine ⟨⟨rfl, ?_⟩, ⟨encode_jpIf cc t, ?_⟩, rfl, ?_⟩
  · rw [(Executes.jpA16 t).exec_eq, jumpAbs_spec]
  · rw [exec_jpIf, jumpAbsIf_eq_ite, jumpAbs_spec, apply_ite Host.Outcome.next]
  · rw [Executes.jpHl.exec_eq, jumpHl_spec]

-- CALL a16 and CALL cc,a16 (R238, R239)

/-- The two write requests of a call, low byte first (R57, R231). -/
theorem callAbs_eq_writeByte (t : Word) (s : State) :
    callAbs t s =
      { (s.writeByte (s.sp - 2) (lo8 (s.pc + 3))).writeByte (s.sp - 2 + 1) (hi8 (s.pc + 3)) with
        sp := s.sp - 2, pc := t, cycles := s.cycles + 24 } := callAbs_spec t s

theorem callAbsIf_eq_ite (cc : Cond) (t : Word) (s : State) :
    callAbsIf cc t s = if s.cond cc then callAbs t s else done 3 12 s := rfl

theorem encode_callIf (cc : Cond) (t : Word) :
    encode (.callIf cc t) = [0b110#3 ++ cc.code ++ 0b100#3, lo8 t, hi8 t] := by
  cases cc <;> rfl

/-- Settles O20, by `callAbs_eq_writeByte` for the call that is taken. -/
theorem callResults : Obligations.CallResults := by
  intro s cc t taken
  refine ⟨⟨rfl, ?_⟩, encode_callIf cc t, ?_⟩
  · rw [(Executes.callA16 t).exec_eq, callAbs_eq_writeByte]
  · rw [exec_callIf, callAbsIf_eq_ite, callAbs_eq_writeByte, apply_ite Host.Outcome.next]

-- RET, RETI and RET cc (R240 to R242)

theorem encode_retIf (cc : Cond) : encode (.retIf cc) = [0b110#3 ++ cc.code ++ 0b000#3] := by cases cc <;> rfl

/-- Settles O21: the popped word is read low byte first, the high byte after the first read's effect. -/
theorem returnResults : Obligations.ReturnResults := by
  intro s cc popped
  have hpopped (k : Nat) :
      { s.afterReadWord s.sp with sp := s.sp + 2, pc := s.popValue, cycles := s.cycles + k } = popped k := rfl
  refine ⟨⟨rfl, ?_⟩, ⟨rfl, ?_⟩, encode_retIf cc, ?_⟩
  · rw [Executes.ret.exec_eq, returnAlways_spec, hpopped]
  · rw [Executes.reti.exec_eq, returnAlways_spec, hpopped]
  · rw [exec_retIf, returnIf_spec, hpopped, apply_ite Host.Outcome.next, done]

-- RST y (R243)

/-- 8 × y does not leave the word. -/
theorem rstTarget_eq_ofNat (y : BitVec 3) : rstTarget y = BitVec.ofNat 16 (8 * y.toNat) := by
  revert y; decide

theorem encode_rst (y : BitVec 3) : encode (.rst y) = [0b11#2 ++ y ++ 0b111#3] := by
  revert y; decide

/-- Settles O22; the target by `rstTarget_eq_ofNat`. -/
theorem restartResult : Obligations.RestartResult := by
  intro s y
  refine ⟨encode_rst y, ?_⟩
  rw [exec_rst, restart_spec, rstTarget_eq_ofNat]
  rfl

end Sys2Proof.Machine
end

section
/-! The stack (spec/45_control.md R231, R232, R244 to R246): PUSH and POP, and what a pop gives back of a push. -/

namespace Sys2Proof.Machine

open Sys2Proof Sys2Proof.Claims

-- PUSH rr and POP rr (R244 to R246)

theorem pushPair_eq_done (p : StackPair) (s : State) :
    pushPair p s =
      done 1 16 { (s.writeByte (s.sp - 2) (lo8 (s.stackPair p))).writeByte (s.sp - 2 + 1) (hi8 (s.stackPair p)) with
        sp := s.sp - 2 } := pushPair_spec p s

theorem popPair_eq_done (p : StackPair) (s : State) :
    popPair p s =
      done 1 12 ({ s.afterReadWord s.sp with sp := s.sp + 2 }.setStackPair p s.popValue) := by
  cases p <;> rfl

theorem State.hi8_popValue (s : State) : hi8 s.popValue = (s.afterRead s.sp).readByte (s.sp + 1) := hi8_wordOf ..
theorem State.lo8_popValue (s : State) : lo8 s.popValue = s.readByte s.sp := lo8_wordOf ..

theorem encode_push (p : StackPair) : encode (.push p) = [0b11#2 ++ p.code ++ 0b0101#4] := by cases p <;> rfl
theorem encode_pop (p : StackPair) : encode (.pop p) = [0b11#2 ++ p.code ++ 0b0001#4] := by cases p <;> rfl

/-- Settles O23: a pop writes the two bytes it read to the pair, and AF masks the low one. -/
theorem pushPopResults : Obligations.PushPopResults := by
  intro s p s2 lo hi
  have hpop (q : StackPair) : exec (.pop q) s =
      .next (done 1 12 ({ s2 with sp := s.sp + 2 }.setStackPair q s.popValue)) := by
    rw [exec_pop, popPair_eq_done, State.afterReadWord]
  have hhi : hi8 s.popValue = hi := s.hi8_popValue
  have hlo : lo8 s.popValue = lo := s.lo8_popValue
  rw [← hhi, ← hlo]
  refine ⟨⟨encode_push p, ?_⟩, encode_pop p, hpop .bc, hpop .de, hpop .hl, hpop .af⟩
  rw [exec_push, pushPair_eq_done]

-- a pop after a push through RAM

section

variable {s : State} (hm : s.mem.wf = true) (hlo : s.mem.backingAt (s.sp - 2) = .ram)
  (hhi : s.mem.backingAt (s.sp - 2 + 1) = .ram)

include hm hlo hhi

theorem State.popValue_push16 (v : Word) : (s.push16 v).popValue = v := by
  obtain ⟨-, -, hread, -⟩ := wordAccessLittleEndian s (s.sp - 2) v hm hlo hhi
  exact hread

/-- A return undoes a call but for memory and the requests: it comes back to the PC that the call pushed. -/
theorem returnAlways_callTo (k : Nat) (a : Word) :
    ∃ m b, returnAlways ((s.callTo a).tick k) = { s.tick (k + 16) with mem := m, bus := b } := by
  have hpc : ((s.callTo a).tick k).popValue = s.pc := State.popValue_push16 hm hlo hhi s.pc
  have hsp : ((s.callTo a).tick k).sp + 2 = s.sp := BitVec.sub_add_cancel s.sp 2
  rw [returnAlways_spec, hpc, hsp, State.afterReadWord_spec, State.callTo_spec, State.writeWord_spec]
  exact ⟨_, _, rfl⟩

end

/-- What a stack pair holds after a write (R22, R26). -/
theorem State.stackPair_setStackPair (p : StackPair) (w : Word) (s : State) :
    (s.setStackPair p w).stackPair p = if p = .af then w &&& 0xFFF0 else w := by
  cases p with
  | af => exact wordOf_hi8_maskF_lo8 w
  | bc | de | hl => exact wordOf_hi8_lo8 w

theorem State.stackPair_done (p : StackPair) (n k : Nat) (s : State) : (done n k s).stackPair p = s.stackPair p := by
  cases p <;> rfl

/-- Settles O57: the pop reads back the pushed word at the SP that the push left. -/
theorem pushThenPopRestores : Obligations.PushThenPopRestores := by
  intro s p q hm hlo hhi
  have hval : (pushPair p s).popValue = s.stackPair p :=
    State.popValue_push16 (s := s.advance 1) hm hlo hhi (s.stackPair p)
  refine ⟨pushPair p s, popPair q (pushPair p s), exec_push p s, exec_pop q _, ?_, ?_⟩
  · rw [popPair_spec, pushPair_spec]
    exact BitVec.sub_add_cancel s.sp 2
  · rw [popPair_eq_done, State.stackPair_done, State.stackPair_setStackPair, hval]

/-- Settles O58: from the state past the instruction, CALL and RST are a `callTo` and a cost, which RET undoes by
`returnAlways_callTo`. -/
theorem callThenReturnComesBack : Obligations.CallThenReturnComesBack := by
  intro s a y hm hlo hhi
  constructor
  · obtain ⟨m, b, hret⟩ := returnAlways_callTo (s := s.advance 3) hm hlo hhi 24 a
    refine ⟨callAbs a s, returnAlways (callAbs a s), (Executes.callA16 a).exec_eq s, Executes.ret.exec_eq _, ?_⟩
    rw [callAbs, hret, tick_advance_eq_done]
  · obtain ⟨m, b, hret⟩ := returnAlways_callTo (s := s.advance 1) hm hlo hhi 16 (rstTarget y)
    refine ⟨restart y s, returnAlways (restart y s), exec_rst y s, Executes.ret.exec_eq _, ?_⟩
    rw [restart, hret, tick_advance_eq_done]

end Sys2Proof.Machine
end

section
/-! NOP, DI, EI, HALT and STOP (spec/46_misc.md R260 to R264), whose meanings are `idle` and `stopIn`. -/

namespace Sys2Proof.Machine

open Sys2Proof Sys2Proof.Claims

theorem idle_eq_done (s : State) : idle s = done 1 4 s := tick_advance_eq_done 1 4 s

theorem stopIn_eq_done (n : Nat) (m : Mode) (s : State) : stopIn n m s = done n 4 { s with mode := m } :=
  stopIn_spec n m s

/-- Settles O24: an absent opcode is read as 0x00, the whole encoding of NOP. -/
theorem nopDiEiResults : Obligations.NopDiEiResults := by
  intro s
  refine ⟨⟨rfl, ?_⟩, ⟨rfl, ?_⟩, ⟨rfl, ?_⟩, fun hrun hsrc habsent => ?_⟩
  · rw [Executes.nop.exec_eq, idle_eq_done]
  · rw [Executes.di.exec_eq, idle_eq_done]
  · rw [Executes.ei.exec_eq, idle_eq_done]
  · have hnop : s.readByte s.pc = 0x00 := State.readByte_of_answer habsent
    rw [step_of_encode_eq_singleton (i := .nop) rfl hrun hsrc hnop, Executes.nop.exec_eq, idle_eq_done,
      State.beginStep]

/-- Settles O25: the meanings by `stopIn_eq_done`, and `step_of_not_running` for both modes. -/
theorem haltStopResults : Obligations.HaltStopResults := by
  intro s pad
  refine ⟨⟨rfl, ?_⟩, ⟨rfl, ?_⟩, ?_, ?_⟩
  · rw [Executes.halt.exec_eq, stopIn_eq_done]
  · rw [(Executes.stop pad).exec_eq, stopIn_eq_done]
  · exact step_of_not_running { s with mode := .halted } (show Mode.halted ≠ .running by decide)
  · exact step_of_not_running { s with mode := .stopped } (show Mode.stopped ≠ .running by decide)

end Sys2Proof.Machine
end

section
/-! The ports of a fault and the causes that change the mode (spec/60_exceptions.md R300, R305, R306). -/

namespace Sys2Proof.Machine

open Sys2Proof Sys2Proof.Claims

-- the fault ports

theorem State.faultCause_raise (k : FaultCause) (op : Byte) (s : State) :
    (s.raise k op).faultCause = some k.portCode := rfl

theorem State.faultOpcode_raise (k : FaultCause) (op : Byte) (s : State) : (s.raise k op).faultOpcode = some op := rfl

theorem State.safe_raise (k : FaultCause) (op : Byte) (s : State) : (s.raise k op).safe = false := rfl

/-- Outside Faulted the two ports show nothing (R40). -/
theorem State.safe_iff_ports_none (s : State) : s.safe = true ↔ s.faultCause = none ∧ s.faultOpcode = none := by
  cases hm : s.mode <;> simp [State.safe, State.faultCause, State.faultOpcode, hm]

/-- Settles O27: a raised fault shows its cause's code and its opcode, and the ports are read from the mode alone. -/
theorem faultPortCodes : Obligations.FaultPortCodes := by
  intro s op
  exact ⟨s.faultCause_raise .illegalOpcode op, s.faultCause_raise .notImplemented op,
    fun k => ⟨s.faultOpcode_raise k op, s.safe_raise k op⟩, s.safe_iff_ports_none⟩

-- a step and a run

theorem State.resetBlock_mode (s : State) : s.resetBlock.mode = .running := rfl

/-- A run from a state that the step leaves as it is stays there. -/
theorem run_of_step_eq_self {M : Host.Core} {s : M.State} (h : M.step s = .next s) (n : Nat) : M.run n s = .next s := by
  induction n with
  | zero => rfl
  | succ n ih =>
    rw [Host.Core.run, h]
    exact ih

/-- Settles O30, by `step_of_not_running` for each step of the run. -/
theorem notRunningStepDoesNothing : Obligations.NotRunningStepDoesNothing := by
  intro s n hs
  have hstep : step s = .next s := step_of_not_running s hs
  exact ⟨hstep, run_of_step_eq_self (M := core) hstep n, s.resetBlock_mode⟩

theorem exists_exec_eq_next (i : Instr) (s : State) : ∃ t, exec i s = .next t := by
  obtain ⟨m, hm⟩ := exists_executes i
  exact ⟨m s, hm.exec_eq s⟩

/-- Settles O47: a running step is the meaning of the fetched instruction, and every meaning answers a state. -/
theorem everyStepAnswersANextState : Obligations.EveryStepAnswersANextState := by
  refine ⟨fun s => ?_, exists_exec_eq_next⟩
  by_cases hrun : s.mode = .running
  · rw [step_running s hrun]
    exact exists_exec_eq_next ..
  · exact ⟨s, step_of_not_running s hrun⟩

-- the mode after an instruction

@[simp] theorem State.flagsOf_mode (r : Sum8) (n : Bool) (s : State) : (s.flagsOf r n).mode = s.mode := rfl
@[simp] theorem State.alu_mode (op : AluOp) (v : Byte) (s : State) : (s.alu op v).mode = s.mode := by cases op <;> rfl
@[simp] theorem State.writeWord_mode (x v : Word) (s : State) : (s.writeWord x v).mode = s.mode := by
  rw [State.writeWord, State.writeByte_mode, State.writeByte_mode]
@[simp] theorem State.push16_mode (v : Word) (s : State) : (s.push16 v).mode = s.mode := by
  rw [State.push16, State.writeWord_mode, State.setSp_mode]
@[simp] theorem State.afterPop_mode (s : State) : s.afterPop.mode = s.mode := by
  rw [State.afterPop, State.setSp_mode, State.afterReadWord, State.afterRead_mode, State.afterRead_mode]
@[simp] theorem State.jumpBy_mode (e : Byte) (s : State) : (s.jumpBy e).mode = s.mode := rfl
@[simp] theorem State.callTo_mode (t : Word) (s : State) : (s.callTo t).mode = s.mode := by
  rw [State.callTo, State.setPc_mode, State.push16_mode]
@[simp] theorem State.returnPop_mode (s : State) : s.returnPop.mode = s.mode := by
  rw [State.returnPop, State.setPc_mode, State.afterPop_mode]
@[simp] theorem State.spPlusFlags_mode (e : Byte) (s : State) : (s.spPlusFlags e).mode = s.mode := rfl
@[simp] theorem storeTo_mode (n k : Nat) (x : Word) (v : Byte) (s : State) : (storeTo n k x v s).mode = s.mode := by
  rw [storeTo, State.tick_mode, State.writeByte_mode, State.advance_mode]

theorem eq_prefixCb_of_notImplemented {i : Instr} (h : i.notImplemented = true) : i = .prefixCb := by
  unfold Instr.notImplemented at h
  split at h
  · rfl
  · cases h

/-- The opcode byte 0x10 is that of STOP alone (R262). -/
theorem exists_eq_stop_of_opcode {i : Instr} (h : i.opcode = 0x10) : ∃ pad, i = .stop pad := by
  obtain ⟨v, w, hi⟩ := exists_fill i
  rw [h] at hi
  exact ⟨v, hi⟩

/-- No meaning but a fault, HALT and STOP writes the mode (R306). -/
theorem Executes.mode_eq {i : Instr} {m : State → State} (h : Executes i m) (s : State) (hill : i.illegal = false)
    (hcb : i.notImplemented = false) (hhalt : i ≠ .halt) (hstop : i.opcode ≠ 0x10) : (m s).mode = s.mode := by
  cases h with
  | illegal hi => simp [hi] at hill
  | prefixCb => cases hcb
  | halt => exact absurd rfl hhalt
  | stop => exact absurd rfl hstop
  | ld | ldImm | ldFromHl | ldAIndBc | ldAIndDe | ldAIndC | ldhAIndA8 | ldAIndA16 | ldAIndHlInc | ldAIndHlDec =>
    simp [loadReg, loadImm, loadFrom, loadHlMove]
  | ldToHl | ldIndHlD8 | ldIndDeA | ldIndCA | ldhIndA8A | ldIndA16A => exact storeTo_mode ..
  | ldIndHlIncA | ldIndHlDecA | ldIndA16Sp => simp [storeHlMove, storeSp]
  | ldPair | incPair | decPair | addHl | ldBcA | ldSpHl | addSpR8 | ldHlSpR8 =>
    simp [loadPair, incPairBy1, decPairBy1, addToHl, widenAIntoBc, copyHlToSp, addSpOffset, loadHlSpOffset]
  | alu | aluHl | aluImm | inc | dec | incIndHl | decIndHl =>
    simp [aluReg, aluMem, aluByte, stepReg, stepMem]
  | rlca | rrca | rla | rra | daa | cpl | scf | ccf => simp [rotateA, decimalAdjust, complementA, carryOp]
  | push | pop | callA16 | rst | ret | reti => simp [pushPair, popPair, callAbs, restart, returnAlways]
  | jrR8 | jpA16 | jpHl => simp [jumpRel, jumpAbs, jumpHl]
  | jrIf | jpIf | callIf | retIf =>
    simp only [jumpRelIf, jumpAbsIf, callAbsIf, returnIf]
    split <;> simp
  | nop | di | ei => simp [idle]

/-- Settles O48, along the causes: the 11 illegal rows, 0xCB, HALT, STOP, and `Executes.mode_eq` for the rest. -/
theorem modeChangesOnlyByFourCauses : Obligations.ModeChangesOnlyByFourCauses := by
  intro i s
  obtain ⟨m, hm⟩ := exists_executes i
  split_ifs with hill hcb hhalt hstop
  · exact ⟨_, exec_illegal hill s, rfl⟩
  · obtain rfl := eq_prefixCb_of_notImplemented hcb
    exact ⟨_, Executes.prefixCb.exec_eq s, rfl⟩
  · subst hhalt
    exact ⟨_, Executes.halt.exec_eq s, rfl⟩
  · obtain ⟨pad, rfl⟩ := exists_eq_stop_of_opcode hstop
    exact ⟨_, (Executes.stop pad).exec_eq s, rfl⟩
  · exact ⟨m s, hm.exec_eq s, hm.mode_eq s (by simpa using hill) (by simpa using hcb) hhalt hstop⟩

end Sys2Proof.Machine
end

section
/-! Reset (spec/10_state.md R36, spec/70_reset_and_hazards.md R330 to R334): the reset event writes the values of the
selected revision over whatever the state holds, and for DMG these are the values of `State.reset`. -/

namespace Sys2Proof.Machine

open Sys2Proof Sys2Proof.Claims

/-- Settles O28: the register bytes of `State.reset`, and the pairs and flags that they spell. -/
theorem resetValues : Obligations.ResetValues := by
  unfold Obligations.ResetValues
  decide

-- the flag byte of a revision: its four flags over a zero nibble (R24)

theorem flagNibble_append_zero_low (n : BitVec 4) : (n ++ 0#4) &&& 0x0F#8 = 0 := by
  revert n; decide

theorem State.resetBlock_f_high (s : State) :
    s.resetBlock.f.extractLsb' 4 4 = (Config.regInit s.cfg.revision).flags := BitVec.extractLsb'_append_eq_left

theorem State.resetBlock_f_low (s : State) : s.resetBlock.f &&& 0x0F = 0 := flagNibble_append_zero_low _

-- the pairs, and the whole state for DMG

theorem State.resetBlock_bc (s : State) : s.resetBlock.bc = (Config.regInit s.cfg.revision).bc := wordOf_hi8_lo8 _
theorem State.resetBlock_de (s : State) : s.resetBlock.de = (Config.regInit s.cfg.revision).de := wordOf_hi8_lo8 _
theorem State.resetBlock_hl (s : State) : s.resetBlock.hl = (Config.regInit s.cfg.revision).hl := wordOf_hi8_lo8 _

/-- Under DMG the reset event forgets everything but memory, the parameters and the opcode port. -/
theorem State.resetBlock_of_dmg {s : State} (h : s.cfg.revision = .dmg) :
    s.resetBlock = { State.reset with mem := s.mem, cfg := s.cfg, opcodeIn := s.opcodeIn } := by
  rw [State.resetBlock, h]
  rfl

/-- Settles O29: the pairs are rebuilt from the bytes that `resetBlock` writes, the flags from their nibble, and the
fields it names or keeps are read off its definition. -/
theorem resetEventRestartsAnyState : Obligations.ResetEventRestartsAnyState := by
  intro s t r
  have hbc : t.bc = r.bc := s.resetBlock_bc
  have hde : t.de = r.de := s.resetBlock_de
  have hhl : t.hl = r.hl := s.resetBlock_hl
  have hmode : t.mode = .running := s.resetBlock_mode
  exact ⟨rfl, s.resetBlock_f_high, s.resetBlock_f_low, hbc, hde, hhl, rfl, rfl, rfl, hmode, rfl, rfl, rfl, rfl,
    State.resetBlock_of_dmg, step_of_not_running s⟩

end Sys2Proof.Machine
end
